-- ==== Sys2Proof/Word.lean ====
section
/-! DEFINITION. The word types of the SC8: bytes, sequence numbers, two-byte fields, connector numbers, timers,
and the levels of two bus lines. -/

namespace Sys2Proof

/-- One byte on the line or on a module bus. -/
abbrev Byte := BitVec 8

/-- A link sequence number, counted modulo 64 (00_scope.md, "Numbers and units"). -/
abbrev Seq := BitVec 6

/-- A two-byte value: the frame check, a posting number. -/
abbrev Half := BitVec 16

/-- A physical connector, 0 to 7. -/
abbrev ConnId := Fin 8

/-- A set of connectors, bit n for connector n (R186). -/
abbrev ConnSet := BitVec 8

/-- A timer: `none` stopped, `some ms` running with the interval it was started with (R18). -/
abbrev Timer := Option Nat

/-- A message is the payload of one DATA frame (R183). -/
abbrev Message := List Byte

/-- What the part reads on a connector's two bus lines at one moment: true for a line that reads high (R6). -/
structure BusLines where
  sclHigh : Bool
  sdaHigh : Bool
  deriving DecidableEq, Repr

end Sys2Proof
end

