-- ==== Sys2Proof/Config.lean ====
section
/-! DEFINITION. The constants the manual fixes in the part, and the one value that is left free: what the module buses
read between two commands. -/

namespace Sys2Proof.Config

/-- Part code (R168). -/
def partCode : Nat := 0x5C08
/-- Revision (R168). -/
def revision : Nat := 1
/-- Records of the Request Pool (R57). -/
def poolSize : Nat := 48
/-- Response places (R120). -/
def responsePlaces : Nat := 64
/-- Places of the Event Queue (R123). -/
def eventPlaces : Nat := 32
/-- Largest lost-event count (R130). -/
def lostEventsMax : Nat := 255
/-- Largest transition count of a SLOT_STATE record (R126). -/
def transitionsMax : Nat := 255
/-- Responses framed in a row while events wait (R133). -/
def consecutiveMax : Nat := 4
/-- Frames of the replay buffer (R154). -/
def replayFrames : Nat := 8
/-- Expiries at which the replay limit is reached (R160). -/
def replayLimit : Nat := 4
/-- Farthest a repeated frame lies behind E (R148). -/
def duplicateWindow : Nat := 8
/-- Largest value of a link counter (R165). -/
def linkCounterMax : Nat := 65535
/-- The HOLD pause in ms (R158). -/
def holdPauseMs : Nat := 10
/-- The spacing of NAK(UNSYNCED) in ms (R147). -/
def unsyncedSpacingMs : Nat := 100
/-- The restart guard in ms (R164). -/
def restartGuardMs : Nat := 1000
/-- The attention steadiness measure in ms (R45). -/
def attentionMs : Nat := 1
/-- The stretch limit in ms (R105). -/
def stretchLimitMs : Nat := 25
/-- What a connector's two bus lines read at a tick of the part, the ticks counted by `State.ticks`; none at a tick in
which its engine makes no line step. A FREE VALUE: the modules and the engine's own clock decide it (R6, R104, R105; log
entries 13 and 21). -/
opaque busReading : Nat → ConnId → Option BusLines
/-- Clock pulses of a bus clear (R112). -/
def clearPulses : Nat := 9
/-- The start byte of a frame (R183). -/
def startByte : Byte := 0xD2
/-- Largest payload of a frame (R183). -/
def maxPayload : Nat := 80
/-- The echo of a missing tag byte or code byte (R52). -/
def missingByte : Byte := 0xFF
/-- A Slot Map entry that names no connector (R186). -/
def noConnector : Byte := 0xFF

end Sys2Proof.Config
end

