-- ==== Sys2Proof/Syntax.lean ====
section
/-! DEFINITION. The commands of the SC8: one constructor of `Instr` for each row of the table of operations and events,
with the operand types they carry. -/

namespace Sys2Proof

/-- What begins, or joins, a device reset from outside the part (R178). A RESTART taking effect is the third source:
it begins the reset inside the step that meets its condition (R164). -/
inductive ExternalReset where
  | powerOn | pin
  deriving DecidableEq, Repr

/-- The strap pins as sampled when a device reset ends (R7): LRATE1..0 and CDIS7..0. -/
structure Straps where
  lrate : BitVec 2
  cdis : ConnSet
  deriving DecidableEq, Repr

/-- A byte as the receiver takes it, with whether its stop bit was sampled low (R140). -/
structure RxByte where
  value : Byte
  damaged : Bool
  deriving DecidableEq, Repr

/-- Frame assembly (R141): hunting for a start byte, or inside a frame with the bytes taken since the start byte. -/
inductive RxState where
  | hunting
  | inFrame (taken : List Byte)
  deriving DecidableEq, Repr

/-- The cause a NAK carries (R183). -/
inductive NakCause where
  | gap | hold | unsynced
  deriving DecidableEq, Repr

/-- A frame of the host that passed every check of R143. -/
inductive HostFrame where
  | data (number : Seq) (payload : Message)
  | ack (number : Seq)
  | nak (cause : NakCause) (number : Seq)
  | sync
  deriving DecidableEq, Repr

/-- The outcomes of a transfer attempt that end it from BUSY, or from the clear before it (R110). -/
inductive AttemptOutcome where
  | done | addressNak | dataNak | stuckAtStart
  deriving DecidableEq, Repr

/-- The commands. `raw` is what the receiver takes from the line up to the moment of the event (R141). `lines` is what
both bus lines read if the step reaches a bus check (R106). `data` of BUS_CLEAR_END is what the data line read from the
reading the clear has come to until its end, at step 2 of the clear or in a pulse; `after` is what both lines read at
step 5 (R112), without meaning once that reading is made. `value` of BYTE_COMPLETED is what the data line read in the
eight bits of a byte received, most significant first (R104). A request row takes the message at the head of the admission queue (R51): its operands are that message's
bytes. -/
inductive Instr where
  | deviceResetBegin (source : ExternalReset)
  | deviceResetEnd (straps : Straps)
  | presenceInputChange (c : ConnId) (asserted : Bool)
  | presenceDebounceExpiry (c : ConnId) (lines : BusLines)
  | ocInputChange (c : ConnId) (asserted : Bool)
  | pgInputChange (c : ConnId) (asserted : Bool) (lines : BusLines)
  | inrushTimerExpiry (c : ConnId)
  | qualifyTimerExpiry (c : ConnId)
  | pgDeadlineExpiry (c : ConnId)
  | retryDelayExpiry (c : ConnId) (lines : BusLines)
  | recurrenceWindowExpiry (c : ConnId)
  | attnInputChange (c : ConnId) (asserted : Bool)
  | attentionSteady (c : ConnId)
  | dataFrame (raw : List RxByte)
  | ackFrame (raw : List RxByte)
  | nakGap (raw : List RxByte)
  | nakHold (raw : List RxByte)
  | nakUnsynced (raw : List RxByte)
  | sync (raw : List RxByte)
  | frameDiscard (raw : List RxByte)
  | interByteTimeout (raw : List RxByte)
  | replayTimerExpiry
  | holdPauseExpiry
  | unsyncedNakSpacingExpiry
  | hostLossTimerExpiry
  | transmitNextFrame
  | frameSchedule
  | restartGuardExpiry
  | unknownRequest
  | getStatus
  | setLink
  | restart
  | setSlotMap
  | getSlotMap
  | slotConfigure
  | slotStatus
  | slotPowerOn (lines : BusLines)
  | slotPowerOffAbort
  | slotPowerOffDrain
  | slotClearFault
  | attentionArm
  | postWrite (lines : BusLines)
  | write (lines : BusLines)
  | read (lines : BusLines)
  | fence (lines : BusLines)
  | pulseReset (lines : BusLines)
  | clearBus (lines : BusLines)
  | cancel (lines : BusLines)
  | byteCompleted (c : ConnId) (value : Byte)
  | attemptOutcome (c : ConnId) (outcome : AttemptOutcome) (lines : BusLines)
  | retryIntervalExpiry (tag : Byte) (lines : BusLines)
  | deadlineExpiry (tag : Byte) (lines : BusLines)
  | stretchLimit (c : ConnId)
  | busClearEnd (c : ConnId) (data : List Bool) (after : BusLines) (lines : BusLines)
  | abortEnd (c : ConnId) (lines : BusLines)
  | pulseTimerExpiry (c : ConnId) (lines : BusLines)
  deriving DecidableEq, Repr

end Sys2Proof
end

