-- ==== Sys2Proof/Decode.lean ====
section
/-! DEFINITION. Decoding. The table gives no row any bits, so `decodeTableWord` reads no command. What the part does
decode is the serial line: bytes from levels and frames from bytes (R140 to R143, R183), with the encoder of the bytes
and frames the part sends. -/

namespace Sys2Proof

/-- No row of the table carries bits, so no word spells a command. -/
def decodeTableWord (_nbits _w : Nat) : Option Instr := none

/-! ### Bytes on the line (R140) -/

/-- The levels of one byte, true for high, one for each bit time: a low start bit, eight data bits, least significant
first, a high stop bit, and no parity. -/
def byteLevels (b : Byte) : List Bool :=
  [false, b.getLsbD 0, b.getLsbD 1, b.getLsbD 2, b.getLsbD 3, b.getLsbD 4, b.getLsbD 5, b.getLsbD 6, b.getLsbD 7, true]

/-- The byte of eight data bits, least significant first. -/
def byteOfBits (b0 b1 b2 b3 b4 b5 b6 b7 : Bool) : Byte :=
  BitVec.ofBool b7 ++ BitVec.ofBool b6 ++ BitVec.ofBool b5 ++ BitVec.ofBool b4 ++ BitVec.ofBool b3 ++ BitVec.ofBool b2
    ++ BitVec.ofBool b1 ++ BitVec.ofBool b0

/-- The bytes that the receiver samples from the levels of the line: a high level is the idle line, a low one a start
bit, and a byte whose stop bit is sampled low is damaged. Levels that end within a byte give no further byte. -/
def sampleLine : List Bool → List RxByte
  | [] => []
  | true :: rest => sampleLine rest
  | false :: b0 :: b1 :: b2 :: b3 :: b4 :: b5 :: b6 :: b7 :: stop :: rest =>
    ⟨byteOfBits b0 b1 b2 b3 b4 b5 b6 b7, !stop⟩ :: sampleLine rest
  | false :: _ => []

/-! ### The frame check -/

/-- One shift of the check register of generator x^16 + x^12 + x^5 + 1 (R142). -/
def crcShift (r : Half) : Half :=
  if r.msb then (r <<< 1) ^^^ 0x1021 else r <<< 1

/-- One byte enters the register, most significant bit first (R142). -/
def crcByte (r : Half) (b : Byte) : Half :=
  let r := r ^^^ (b.setWidth 16 <<< 8)
  crcShift (crcShift (crcShift (crcShift (crcShift (crcShift (crcShift (crcShift r)))))))

/-- The frame check over the bytes given: the register starts at 0xFFFF and is not inverted (R142). -/
def crc16 (bytes : List Byte) : Half :=
  bytes.foldl crcByte 0xFFFF

/-- The more significant byte of a two-byte value. -/
def highByte (h : Half) : Byte := (h >>> 8).setWidth 8

/-- The less significant byte of a two-byte value. -/
def lowByte (h : Half) : Byte := h.setWidth 8

/-- The two bytes of a message field, least significant first (R186). -/
def wordBytes (h : Half) : List Byte := [lowByte h, highByte h]

/-- The two-byte field whose first byte is `lo` (R186). -/
def wordOf (lo hi : Byte) : Half := (hi.setWidth 16 <<< 8) ||| lo.setWidth 16

/-! ### Sending -/

/-- The control byte of a frame: type in bits 7 and 6, number in bits 5 to 0 (R183). -/
def controlByte (type : BitVec 2) (number : Seq) : Byte := type ++ number

/-- The bytes of a NAK's cause (R183). -/
def nakCauseByte : NakCause → Byte
  | .gap => 0x01
  | .hold => 0x02
  | .unsynced => 0x03

/-- A frame on the line: start, control, length, payload, check with its high byte first (R183). -/
def frameBytes (control : Byte) (payload : List Byte) : List Byte :=
  let covered := control :: BitVec.ofNat 8 payload.length :: payload
  let check := crc16 covered
  Config.startByte :: covered ++ [highByte check, lowByte check]

/-- A DATA frame (R183). -/
def dataFrameBytes (number : Seq) (payload : Message) : List Byte := frameBytes (controlByte 0 number) payload

/-- An ACK frame (R183). -/
def ackFrameBytes (number : Seq) : List Byte := frameBytes (controlByte 1 number) []

/-- A NAK frame (R183). -/
def nakFrameBytes (cause : NakCause) (number : Seq) : List Byte :=
  frameBytes (controlByte 2 number) [nakCauseByte cause]

/-- A SYNC frame, which only the host sends (R183). -/
def syncFrameBytes : List Byte := frameBytes (controlByte 3 0x01) []

/-- A SYNC_ACK frame with the pre-sync expected sequence and the number of frames renumbered (R183). -/
def syncAckFrameBytes (expected : Seq) (renumbered : Nat) : List Byte :=
  frameBytes (controlByte 3 0x02) [expected.setWidth 8, BitVec.ofNat 8 renumbered]

/-- The line bytes of a host frame. -/
def hostFrameBytes : HostFrame → List Byte
  | .data n payload => dataFrameBytes n payload
  | .ack n => ackFrameBytes n
  | .nak cause n => nakFrameBytes cause n
  | .sync => syncFrameBytes

/-- The bytes given, none of them damaged. -/
def undamaged (bytes : List Byte) : List RxByte := bytes.map fun b => ⟨b, false⟩

/-! ### Receiving -/

/-- What frame assembly reports as it takes a byte: a checked frame, or a discard (R143). -/
inductive RxEvent where
  | frame (f : HostFrame)
  | discarded
  deriving DecidableEq, Repr

/-- The NAK cause a cause byte names, if any (R143, R183). -/
def nakCauseOf (b : Byte) : Option NakCause :=
  if b = 0x01 then some .gap
  else if b = 0x02 then some .hold
  else if b = 0x03 then some .unsynced
  else none

/-- The frame that a control byte and a payload spell once the check has passed; none for the cases that R143
discards: a CONTROL subtype other than SYNC, a payload length the type does not call for, a NAK cause that names
nothing. -/
def frameOf (control : Byte) (payload : List Byte) : Option HostFrame :=
  let number : Seq := control.setWidth 6
  let type : BitVec 2 := control.extractLsb' 6 2
  if type = 0 then some (.data number payload)
  else if type = 1 then (if payload = [] then some (.ack number) else none)
  else if type = 2 then
    match payload with
    | [b] => (nakCauseOf b).map fun cause => .nak cause number
    | _ => none
  else if number = 0x01 ∧ payload = [] then some .sync
  else none

/-- The verdict on a frame taken whole, given its control byte, its payload and its two check bytes (R142, R143). -/
def checkFrame (control length : Byte) (payload : List Byte) (checkHigh checkLow : Byte) : RxEvent :=
  let check := crc16 (control :: length :: payload)
  if highByte check = checkHigh ∧ lowByte check = checkLow then
    match frameOf control payload with
    | some f => .frame f
    | none => .discarded
  else .discarded

/-- What the bytes taken since the start byte make: still inside a frame, or an event (R141, R143). -/
def assemble (taken : List Byte) : RxState ⊕ RxEvent :=
  match taken with
  | control :: length :: rest =>
    if Config.maxPayload < length.toNat then .inr .discarded
    else if rest.length < length.toNat + 2 then .inl (.inFrame taken)
    else
      let payload := rest.take length.toNat
      match rest.drop length.toNat with
      | hi :: lo :: _ => .inr (checkFrame control length payload hi lo)
      | _ => .inl (.inFrame taken)
  | _ => .inl (.inFrame taken)

/-- The receiver takes one byte (R140, R141): hunting it looks for an undamaged start byte, inside a frame a damaged
byte discards the frame and any other byte is counted into it. -/
def rxByte (st : RxState) (b : RxByte) : RxState ⊕ RxEvent :=
  match st with
  | .hunting =>
    if b.damaged = false ∧ b.value = Config.startByte then .inl (.inFrame []) else .inl .hunting
  | .inFrame taken =>
    if b.damaged then .inr .discarded else assemble (taken ++ [b.value])

/-- What a run of bytes comes to: no event and the assembly state reached, or an event at the run's last byte.
`none` when an event falls before the last byte: the run is then more than one event's bytes. -/
def receive (st : RxState) : List RxByte → Option (RxState ⊕ RxEvent)
  | [] => some (.inl st)
  | b :: bs =>
    match rxByte st b with
    | .inl st' => receive st' bs
    | .inr e => if bs.isEmpty then some (.inr e) else none

/-- The checked frame that a run of bytes ends with, if it ends with one. -/
def receivedFrame (st : RxState) (raw : List RxByte) : Option HostFrame :=
  match receive st raw with
  | some (.inr (.frame f)) => some f
  | _ => none

/-- The run of bytes ends with a discard (R143). -/
def receivedDiscard (st : RxState) (raw : List RxByte) : Bool :=
  receive st raw == some (.inr .discarded)

/-- The run of bytes leaves the receiver inside a frame, where the inter-byte timer runs (R141). -/
def receivedPartial (st : RxState) (raw : List RxByte) : Bool :=
  match receive st raw with
  | some (.inl (.inFrame _)) => true
  | _ => false

end Sys2Proof
end

