-- ==== Sys2Proof/Machine/State.lean ====
section
/-! DEFINITION. The state of the SC8 as plain data, block by block, and the machine right after a power-on reset. -/

namespace Sys2Proof.Machine

/-! ### Names the manual prints in capitals -/

/-- Connector states (section 2.1). -/
inductive ConnState where
  | unused | empty | off | powering | on | draining | cooldown | faulted
  deriving DecidableEq, Repr

/-- Causes of a SLOT_STATE event (section 2.10). -/
inductive Cause where
  | inserted | removed | autoOn | powerGood | overcurrent | pgLost | pgTimeout | retry
  | hostOn | hostOff | hostDrain | drained | faultCleared | hostLoss | mapped | unmapped
  deriving DecidableEq, Repr

/-- Statuses of responses and of POSTED_FAILED events (R186). -/
inductive Status where
  | ok | unknownRequest | badLength | badParam | badSlot | tagInUse | poolFull | quotaFull | slotNotReady
  | faultLatched | mapConflict | notFound | restarting
  | noTarget | dataRefused | busStuck | busHung | slotFault | removed | poweredOff | expired | cancelled
  deriving DecidableEq, Repr

/-- Reset causes (R179). -/
inductive ResetCause where
  | powerOn | pin | restart
  deriving DecidableEq, Repr

/-- Link states (R139). -/
inductive LinkState where
  | start | up | down
  deriving DecidableEq, Repr

/-- Host-loss actions (R163). -/
inductive HostLossAction where
  | hold | powerOffAll
  deriving DecidableEq, Repr

/-- Bus speeds (R104). -/
inductive BusSpeed where
  | khz100 | khz400
  deriving DecidableEq, Repr

/-- Kinds of queued request (R59). -/
inductive EntryKind where
  | postWrite | write | read | fence | pulseReset | clearBus
  deriving DecidableEq, Repr

/-- Entry states (R74). -/
inductive EntryState where
  | waiting | active | backoff
  deriving DecidableEq, Repr

/-- Phases of a transfer attempt (R101). -/
inductive TransferPhase where
  | busCheck | start | writeAddress | writeBytes | repeatedStart | readAddress | readBytes | stop
  deriving DecidableEq, Repr

/-- Engine states as SLOT_STATUS reports them (R101). -/
inductive EngineState where
  | off | idle | busy | aborting | clearing | hung
  deriving DecidableEq, Repr

/-! ### One connector -/

/-- The slot configuration record (R169). `retryDelay` and `recurrenceWindow` are counts of 10 ms units. -/
structure SlotConfig where
  autoPower : Bool
  autoRetry : Bool
  inrushMs : Nat
  qualifyMs : Nat
  pgDeadlineMs : Nat
  retryDelay : Nat
  recurrenceWindow : Nat
  debounceMs : Nat
  busSpeed : BusSpeed
  retryIntervalMs : Nat
  postedRetries : Nat
  lifetimeMs : Nat
  quota : Nat
  deriving DecidableEq, Repr

/-- A record of the Request Pool (R59). Its class is a function of its kind and its connector is the one whose Slot
Queue holds it. `deadline` and `retryTimer` are its two timers (R72). -/
structure Entry where
  tag : Byte
  kind : EntryKind
  slot : Nat
  address : Option Byte
  writeBytes : List Byte
  readCount : Option Nat
  pulseMs : Option Nat
  budget : Option Nat
  retriesUsed : Option Nat
  state : EntryState
  deadline : Timer
  retryTimer : Timer
  postingNumber : Option Half
  acked : Nat
  deriving DecidableEq, Repr

/-- The elements of an attempt (R104). An address byte gives the direction; a received byte says whether it is the last,
which the engine does not acknowledge (R108). -/
inductive BusElement where
  | start
  | repeatedStart
  | address (byte : Byte)
  | sent (byte : Byte)
  | received (last : Bool)
  | stop
  deriving DecidableEq, Repr

/-- The kind of byte that no target acknowledged, after which a stop is made (R107, R108). -/
inductive RefusedByte where
  | address | data
  deriving DecidableEq, Repr

/-- One attempt of a transfer and its progress (R101): what the engine fixed when it took the work (R103), the phase
reached, the line step reached within the signalling element in progress and what the data line has read in it so far
(R104), the bytes completed and the read bytes received so far; in the stop after a refused byte, which it was. A read
count makes it a read attempt. -/
structure Attempt where
  address : Byte
  writeBytes : List Byte
  readCount : Option Nat
  speed : BusSpeed
  phase : TransferPhase
  lineStep : Nat
  sampled : List Bool
  completed : Nat
  received : List Byte
  refused : Option RefusedByte
  deriving DecidableEq, Repr

/-- The purpose of a bus clear (R113); before a transfer it keeps the attempt and whether that was aborted (R116). -/
inductive ClearPurpose where
  | requested
  | beforeTransfer (attempt : Attempt) (aborted : Bool)
  | afterStretch
  deriving DecidableEq, Repr

/-- Where a bus clear stands (R112): its release of the lines and first reading (steps 1 and 2), a clock pulse (step 3),
its stop and last reading (steps 4 and 5), or its end with its result, which is to be reported. -/
inductive ClearStage where
  | release
  | pulse
  | stop
  | ended (success : Bool)
  deriving DecidableEq, Repr

/-- The progress of a bus clear (R101, R112): its speed, the clear pulse count, its stage and the line step in it. -/
structure BusClear where
  speed : BusSpeed
  pulses : Nat
  stage : ClearStage
  lineStep : Nat
  deriving DecidableEq, Repr

/-- A Bus Engine (R101): its state together with the work in hand, the pulse timer's interval, and a clear's progress. In
ABORTING `finishing` is the element that is being finished (R115). -/
inductive Engine where
  | off
  | idle
  | transferring (attempt : Attempt)
  | pulsing (ms : Nat)
  | aborting (attempt : Attempt) (finishing : BusElement)
  | clearing (purpose : ClearPurpose) (clear : BusClear)
  | hung
  deriving DecidableEq, Repr

/-- A connector: its pins, its Connector Supervisor, its Slot Sequencer and its Bus Engine. Pins are held as
"asserted" (section 1.1). `cooldown` is the cooldown/recurrence timer (section 2.1). -/
structure Connector where
  presAsserted : Bool
  ocAsserted : Bool
  pgAsserted : Bool
  attnAsserted : Bool
  pen : Bool
  mrst : Bool
  state : ConnState
  faultCounter : Fin 2
  armed : Bool
  steady : Bool
  attnTimer : Timer
  debounce : Timer
  inrush : Timer
  qualify : Timer
  pgDeadline : Timer
  cooldown : Timer
  config : SlotConfig
  queue : List Entry
  postingCounter : Half
  engine : Engine
  deriving DecidableEq, Repr

/-! ### Outbound Unit -/

/-- The SLOT_STATE record (R124, R126). -/
structure SlotStateRecord where
  conn : ConnId
  slot : Nat
  fromState : ConnState
  toState : ConnState
  cause : Cause
  faultCounter : Fin 2
  transitions : Nat
  deriving DecidableEq, Repr

/-- Events (R124). -/
inductive Event where
  | started (cause : ResetCause)
  | slotState (record : SlotStateRecord)
  | postedFailed (conn : ConnId) (slot : Nat) (number : Half) (status : Status) (acked : Nat)
  | attention (conn : ConnId) (slot : Nat)
  | hostLoss (action : HostLossAction) (moved : ConnSet)
  | eventsLost (count : Nat)
  deriving DecidableEq, Repr

/-- The slot status record (R173). -/
structure SlotStatusRecord where
  conn : ConnId
  slot : Nat
  state : ConnState
  faultCounter : Fin 2
  presAsserted : Bool
  pgAsserted : Bool
  ocAsserted : Bool
  attnAsserted : Bool
  armed : Bool
  engine : EngineState
  held : Nat
  waiting : Nat
  active : Nat
  backoff : Nat
  nextPosting : Half
  config : SlotConfig
  deriving DecidableEq, Repr

/-- The six link counters (R165). -/
structure LinkCounters where
  formatDiscards : Nat
  gaps : Nat
  duplicates : Nat
  replays : Nat
  linkDowns : Nat
  protocolErrors : Nat
  deriving DecidableEq, Repr

/-- The part status record (R175), less the identification, which is fixed in the part (R168). -/
structure PartStatusRecord where
  linkRate : BitVec 2
  strapDisabled : ConnSet
  resetCause : ResetCause
  poolUsed : Nat
  placesInUse : Nat
  eventDepth : Nat
  lostEvents : Nat
  linkState : LinkState
  counters : LinkCounters
  replayTimeout : Nat
  hostLossTimeout : Nat
  hostLossAction : HostLossAction
  deriving DecidableEq, Repr

/-- Response bodies (R122). -/
inductive ResponseBody where
  | empty
  | posted (conn : ConnId) (slot : Nat) (number : Half)
  | acked (conn : ConnId) (slot : Nat) (acked : Nat)
  | readData (conn : ConnId) (slot : Nat) (acked : Nat) (data : List Byte)
  | place (conn : ConnId) (slot : Nat)
  | power (conn : ConnId) (slot : Nat) (state : ConnState) (faultCounter : Fin 2)
  | slotStatus (record : SlotStatusRecord)
  | slotMap (table : Vector (Option ConnId) 8) (disabled : ConnSet)
  | target (tag : Byte)
  | partStatus (record : PartStatusRecord)
  deriving DecidableEq, Repr

/-- A queued response (R122, R184): the request's code and tag as echoed, the status and the body. -/
structure Response where
  code : Byte
  tag : Byte
  status : Status
  body : ResponseBody
  deriving DecidableEq, Repr

/-- The Outbound Unit (R119), less the response places, which are counted from where they are used (R120). -/
structure Outbound where
  responses : List Response
  events : List Event
  lostEvents : Nat
  consecutive : Nat
  deriving DecidableEq, Repr

/-! ### Link Interface and Control Unit -/

/-- A frame of the replay buffer (R154); `restartOk` marks the frame that carries a pending RESTART's OK (R164). -/
structure ReplayFrame where
  number : Seq
  payload : Message
  marked : Bool
  restartOk : Bool
  deriving DecidableEq, Repr

/-- The contents of a pending SYNC_ACK (R161). -/
structure SyncAck where
  expected : Seq
  renumbered : Nat
  deriving DecidableEq, Repr

/-- The Link Interface (R139). `expected` is E, `next` is T. `sending` holds the bytes of the frame last begun on TXD,
none when the line is idle (R140). -/
structure Link where
  state : LinkState
  rx : RxState
  expected : Seq
  ackPending : Bool
  gapNakSent : Bool
  spacing : Timer
  next : Seq
  replay : List ReplayFrame
  syncAck : Option SyncAck
  naks : List NakCause
  replayTimer : Timer
  replayCount : Nat
  holdPause : Timer
  hostLoss : Timer
  sending : Option (List Byte)
  counters : LinkCounters
  deriving DecidableEq, Repr

/-- The Control Unit (R168): link parameters, reset cause and restart guard. -/
structure Control where
  replayTimeout : Nat
  hostLossTimeout : Nat
  hostLossAction : HostLossAction
  resetCause : ResetCause
  restartGuard : Timer
  deriving DecidableEq, Repr

/-- The sources that took part in a device reset in progress (R179). -/
structure ResetSources where
  powerOn : Bool
  pin : Bool
  restart : Bool
  deriving DecidableEq, Repr

/-! ### The whole part -/

/-- The state of the SC8. `resetting` is the device reset in progress, if one is. `ticks` counts the ticks of the part,
each of which reads the bus lines afresh (log entry 13). `pending` is the queue of commands waiting, first in first out. -/
structure State where
  conns : Vector Connector 8
  slotMap : Vector (Option ConnId) 8
  strapDisabled : ConnSet
  linkRate : BitVec 2
  admissionQueue : List Message
  restartPending : Bool
  out : Outbound
  link : Link
  control : Control
  resetting : Option ResetSources
  ticks : Nat
  pending : List Instr
  deriving DecidableEq, Repr

/-- Why the machine stops. It never does: the manual names no condition in which the part stops, so the type has no
constructor. Safe. -/
inductive Fault where
  deriving DecidableEq, Repr

/-- Why a command has no meaning. -/
inductive Refusal where
  /-- Raised by `exec` for a command that has no meaning yet; no arm does. Safe. -/
  | notModelled (mnemonic : String)
  deriving DecidableEq, Repr

/-! ### After a power-on reset -/

/-- A configuration record at its defaults (R169). -/
def SlotConfig.default : SlotConfig where
  autoPower := false
  autoRetry := true
  inrushMs := 20
  qualifyMs := 2
  pgDeadlineMs := 100
  retryDelay := 50
  recurrenceWindow := 100
  debounceMs := 10
  busSpeed := .khz100
  retryIntervalMs := 5
  postedRetries := 3
  lifetimeMs := 2000
  quota := 6

/-- A connector that the default map names, after a reset that found its inputs deasserted (R11, R19, R60, R101).
DESIGN CHOICE (log entry 2): the inputs. -/
def Connector.initial : Connector where
  presAsserted := false
  ocAsserted := false
  pgAsserted := false
  attnAsserted := false
  pen := false
  mrst := true
  state := .empty
  faultCounter := 0
  armed := false
  steady := false
  attnTimer := none
  debounce := none
  inrush := none
  qualify := none
  pgDeadline := none
  cooldown := none
  config := SlotConfig.default
  queue := []
  postingCounter := 0
  engine := .off

/-- Link counters at 0 (R165). -/
def LinkCounters.zero : LinkCounters := ⟨0, 0, 0, 0, 0, 0⟩

/-- The Link Interface after every device reset (R139). -/
def Link.initial : Link where
  state := .start
  rx := .hunting
  expected := 0
  ackPending := false
  gapNakSent := false
  spacing := none
  next := 0
  replay := []
  syncAck := none
  naks := []
  replayTimer := none
  replayCount := 0
  holdPause := none
  hostLoss := none
  sending := none
  counters := LinkCounters.zero

/-- The machine right after a power-on reset (R180). DESIGN CHOICE (log entry 1): of the three causes the power-on one,
and straps unconnected, which sample as 0 (R7). -/
def State.reset : State where
  conns := Vector.replicate 8 Connector.initial
  slotMap := #v[some 0, some 1, some 2, some 3, some 4, some 5, some 6, some 7]
  strapDisabled := 0
  linkRate := 0
  admissionQueue := []
  restartPending := false
  out := { responses := [], events := [.started .powerOn], lostEvents := 0, consecutive := 0 }
  link := Link.initial
  control :=
    { replayTimeout := 50, hostLossTimeout := 0, hostLossAction := .hold, resetCause := .powerOn, restartGuard := none }
  resetting := none
  ticks := 0
  pending := []

end Sys2Proof.Machine
end

