-- ==== Sys2Proof/Machine/Flags.lean ====
section
/-! DEFINITION. Conditions, counters and views computed from the state: what each connector state allows, the fault
condition, eligibility, and the saturating counters. -/

namespace Sys2Proof.Machine

/-! ### Connector states -/

/-- Power is enabled: POWERING, ON or DRAINING (R20). -/
def ConnState.powered : ConnState → Bool
  | .powering | .on | .draining => true
  | .unused | .empty | .off | .cooldown | .faulted => false

/-- The bus may be used: ON or DRAINING (R24, R75). -/
def ConnState.usable : ConnState → Bool
  | .on | .draining => true
  | .unused | .empty | .off | .powering | .cooldown | .faulted => false

/-- The debounced presence of a mapped connector: absent in EMPTY, present in every other state (R25). -/
def ConnState.present : ConnState → Bool
  | .empty => false
  | .unused | .off | .powering | .on | .draining | .cooldown | .faulted => true

/-- The states that raise MAP_CONFLICT for an affected connector (R14). -/
def ConnState.blocksMap : ConnState → Bool
  | .powering | .on | .draining | .cooldown => true
  | .unused | .empty | .off | .faulted => false

/-- The fault condition of R32. -/
def Connector.faultCondition (k : Connector) : Bool :=
  (k.state.powered && k.ocAsserted && k.inrush.isNone) || (k.state.usable && !k.pgAsserted)

/-- The cause of a fault as it is qualified (R32). -/
def Connector.faultCause (k : Connector) : Cause :=
  if k.ocAsserted then .overcurrent else .pgLost

/-! ### Entries -/

/-- The class of R59: posted for POST_WRITE, tracked otherwise. -/
def EntryKind.posted : EntryKind → Bool
  | .postWrite => true
  | .write | .read | .fence | .pulseReset | .clearBus => false

/-- The entry is posted. -/
def Entry.posted (e : Entry) : Bool := e.kind.posted

/-- An attempt ended ADDRESS_NAK is tried again (R83). -/
def Entry.budgetLeft (e : Entry) : Bool :=
  match e.budget, e.retriesUsed with
  | some budget, some used => used < budget
  | _, _ => false

/-- The oldest eligible WAITING entry, given whether an older entry, and whether an older posted entry, remains
(R76). -/
def chooseFrom (older olderPosted : Bool) : List Entry → Option Entry
  | [] => none
  | e :: es =>
    if e.state = .waiting ∧ (if e.posted then olderPosted else older) = false then some e
    else chooseFrom true (olderPosted || e.posted) es

/-- The entry a start decision chooses (R76). -/
def Connector.chosen (k : Connector) : Option Entry := chooseFrom false false k.queue

/-- The ACTIVE entry, if there is one (R75). -/
def Connector.activeEntry (k : Connector) : Option Entry := k.queue.find? fun e => e.state == .active

/-- The entry that holds a tag (R58). -/
def Connector.entryOf (k : Connector) (tag : Byte) : Option Entry := k.queue.find? fun e => e.tag == tag

/-- Entries of a queue in a given state (R173). -/
def Connector.countIn (k : Connector) (st : EntryState) : Nat := k.queue.countP fun e => e.state == st

/-! ### Engine -/

/-- The engine state of R101. -/
def Engine.state : Engine → EngineState
  | .off => .off
  | .idle => .idle
  | .transferring _ => .busy
  | .pulsing _ => .busy
  | .aborting _ _ => .aborting
  | .clearing _ _ => .clearing
  | .hung => .hung

/-- A module reset pulse is in progress (R117). -/
def Engine.isPulsing : Engine → Bool
  | .pulsing _ => true
  | .off | .idle | .transferring _ | .aborting _ _ | .clearing _ _ | .hung => false

/-- The engine keeps both bus lines released: it has no work on the bus (R6, R101, R117). -/
def Engine.linesReleased : Engine → Bool
  | .off | .idle | .hung | .pulsing _ => true
  | .transferring _ | .aborting _ _ | .clearing _ _ => false

/-- The start conditions of R75. -/
def Connector.mayStart (k : Connector) : Bool :=
  k.state.usable && (k.engine == .idle || k.engine == .hung) && k.activeEntry.isNone

/-- Both lines read high: the bus is free (R106). -/
def linesFree (l : BusLines) : Bool := l.sclHigh && l.sdaHigh

/-! ### Counters -/

/-- A counter that stops at its largest value. -/
def bump (limit n : Nat) : Nat := if n < limit then n + 1 else limit

/-- One more frame discarded (R143). -/
def LinkCounters.addDiscard (k : LinkCounters) : LinkCounters :=
  { k with formatDiscards := bump Config.linkCounterMax k.formatDiscards }
/-- One more gap (R148). -/
def LinkCounters.addGap (k : LinkCounters) : LinkCounters :=
  { k with gaps := bump Config.linkCounterMax k.gaps }
/-- One more duplicate (R148). -/
def LinkCounters.addDuplicate (k : LinkCounters) : LinkCounters :=
  { k with duplicates := bump Config.linkCounterMax k.duplicates }
/-- One more resend pass (R155). -/
def LinkCounters.addReplay (k : LinkCounters) : LinkCounters :=
  { k with replays := bump Config.linkCounterMax k.replays }
/-- One more entry into DOWN (R146). -/
def LinkCounters.addLinkDown (k : LinkCounters) : LinkCounters :=
  { k with linkDowns := bump Config.linkCounterMax k.linkDowns }
/-- One more protocol error (R165). -/
def LinkCounters.addProtocolError (k : LinkCounters) : LinkCounters :=
  { k with protocolErrors := bump Config.linkCounterMax k.protocolErrors }

/-! ### Views of the whole part -/

/-- The eight connectors in ascending order. -/
def allConns : List ConnId := [0, 1, 2, 3, 4, 5, 6, 7]

/-- The slot, 1 to 8, that leads to a connector in a table, 0 when none does. -/
def slotIn (table : Vector (Option ConnId) 8) (c : ConnId) : Nat :=
  match table.toList.findIdx? (fun entry => entry == some c) with
  | some i => i + 1
  | none => 0

/-- The slot that leads to a connector now (R13). -/
def State.slotOf (s : State) (c : ConnId) : Nat := slotIn s.slotMap c

/-- The connector a slot byte leads to, none outside 1..8 and for a slot mapped to none (R12). -/
def State.resolve (s : State) (slot : Byte) : Option ConnId :=
  if slot.toNat = 0 then none else (s.slotMap.toList[slot.toNat - 1]?).join

/-- Allocated records of the Request Pool (R57). -/
def State.poolUsed (s : State) : Nat := (s.conns.toList.map fun k => k.queue.length).sum

/-- Reserved response places: one for each tracked entry (R65). -/
def State.reservedPlaces (s : State) : Nat :=
  (s.conns.toList.map fun k => k.queue.countP fun e => !e.posted).sum

/-- Response places in any condition other than free (R120). -/
def State.placesInUse (s : State) : Nat :=
  s.admissionQueue.length + s.reservedPlaces + s.out.responses.length

/-- The connector on which an allocated entry holds the tag: admission's view of the tag set (R58). -/
def State.tagHolder (s : State) (tag : Byte) : Option ConnId :=
  allConns.find? fun c => (s.conns[c].entryOf tag).isSome

end Sys2Proof.Machine
end

