-- ==== Sys2Proof/Machine/Operands.lean ====
section
/-! DEFINITION. The operand forms of the requests: what each message's bytes carry, its expected length (R52, R185) and
the ranges of its fields (R54, R186). -/

namespace Sys2Proof.Machine

/-! ### Request codes (R184) -/

/-- Code of GET_STATUS. -/
def codeGetStatus : Byte := 0x01
/-- Code of SET_LINK. -/
def codeSetLink : Byte := 0x02
/-- Code of RESTART. -/
def codeRestart : Byte := 0x03
/-- Code of SET_SLOT_MAP. -/
def codeSetSlotMap : Byte := 0x04
/-- Code of GET_SLOT_MAP. -/
def codeGetSlotMap : Byte := 0x05
/-- Code of SLOT_CONFIGURE. -/
def codeSlotConfigure : Byte := 0x06
/-- Code of SLOT_STATUS. -/
def codeSlotStatus : Byte := 0x07
/-- Code of SLOT_POWER_ON. -/
def codeSlotPowerOn : Byte := 0x08
/-- Code of SLOT_POWER_OFF. -/
def codeSlotPowerOff : Byte := 0x09
/-- Code of SLOT_CLEAR_FAULT. -/
def codeSlotClearFault : Byte := 0x0A
/-- Code of ATTENTION_ARM. -/
def codeAttentionArm : Byte := 0x0B
/-- Code of POST_WRITE. -/
def codePostWrite : Byte := 0x10
/-- Code of WRITE. -/
def codeWrite : Byte := 0x11
/-- Code of READ. -/
def codeRead : Byte := 0x12
/-- Code of FENCE. -/
def codeFence : Byte := 0x13
/-- Code of PULSE_RESET. -/
def codePulseReset : Byte := 0x14
/-- Code of CLEAR_BUS. -/
def codeClearBus : Byte := 0x15
/-- Code of CANCEL. -/
def codeCancel : Byte := 0x16

/-- The codes of requests (R184). -/
def requestCodes : List Byte :=
  [codeGetStatus, codeSetLink, codeRestart, codeSetSlotMap, codeGetSlotMap, codeSlotConfigure, codeSlotStatus,
   codeSlotPowerOn, codeSlotPowerOff, codeSlotClearFault, codeAttentionArm, codePostWrite, codeWrite, codeRead,
   codeFence, codePulseReset, codeClearBus, codeCancel]

/-- The request code of an entry's kind (R88). -/
def EntryKind.code : EntryKind → Byte
  | .postWrite => codePostWrite
  | .write => codeWrite
  | .read => codeRead
  | .fence => codeFence
  | .pulseReset => codePulseReset
  | .clearBus => codeClearBus

/-- The code byte as a response echoes it (R52). -/
def codeOf : Message → Byte
  | code :: _ => code
  | [] => Config.missingByte

/-- The tag byte as a response echoes it (R52). -/
def tagOf : Message → Byte
  | _ :: tag :: _ => tag
  | _ => Config.missingByte

/-- The message carries the request code given. -/
def hasCode (code : Byte) (m : Message) : Bool := m.head? == some code

/-- The message has no bytes, or its code is not a request code (R52). -/
def isUnknown : Message → Bool
  | code :: _ => !requestCodes.contains code
  | [] => true

/-! ### Selectors (R186) -/

/-- A flag byte. -/
def flagOf (b : Byte) : Option Bool :=
  if b = 0x00 then some false else if b = 0x01 then some true else none

/-- A bus_speed selector. -/
def speedOf (b : Byte) : Option BusSpeed :=
  if b = 0x00 then some .khz100 else if b = 0x01 then some .khz400 else none

/-- A host-loss action selector. -/
def lossActionOf (b : Byte) : Option HostLossAction :=
  if b = 0x00 then some .hold else if b = 0x01 then some .powerOffAll else none

/-- A Slot Map entry byte: a connector, none, or out of range. -/
def mapEntryOf (b : Byte) : Option (Option ConnId) :=
  if b = Config.noConnector then some none
  else if h : b.toNat < 8 then some (some ⟨b.toNat, h⟩)
  else none

/-! ### The configuration record (R169, section 9.6) -/

/-- Every field within its range (R169). -/
def SlotConfig.inRange (r : SlotConfig) : Bool :=
  decide (1 ≤ r.inrushMs ∧ r.inrushMs ≤ 255 ∧ r.qualifyMs ≤ 15 ∧ 5 ≤ r.pgDeadlineMs ∧ r.pgDeadlineMs ≤ 1000 ∧
    1 ≤ r.retryDelay ∧ r.retryDelay ≤ 255 ∧ 1 ≤ r.recurrenceWindow ∧ r.recurrenceWindow ≤ 255 ∧
    1 ≤ r.debounceMs ∧ r.debounceMs ≤ 255 ∧ 1 ≤ r.retryIntervalMs ∧ r.retryIntervalMs ≤ 255 ∧
    r.postedRetries ≤ 15 ∧ (r.lifetimeMs = 0 ∨ 10 ≤ r.lifetimeMs ∧ r.lifetimeMs ≤ 60000) ∧
    1 ≤ r.quota ∧ r.quota ≤ 16)

/-- The record that fifteen bytes carry; none when a field is out of range (R169, R170). -/
def SlotConfig.decode (bytes : List Byte) : Option SlotConfig :=
  match bytes with
  | [power, retry, inrush, qualify, pgLow, pgHigh, delay, window, debounce, speed, interval, posted, lifeLow, lifeHigh,
      quota] =>
    match flagOf power, flagOf retry, speedOf speed with
    | some autoPower, some autoRetry, some busSpeed =>
      let r : SlotConfig :=
        { autoPower, autoRetry, busSpeed
          inrushMs := inrush.toNat
          qualifyMs := qualify.toNat
          pgDeadlineMs := (wordOf pgLow pgHigh).toNat
          retryDelay := delay.toNat
          recurrenceWindow := window.toNat
          debounceMs := debounce.toNat
          retryIntervalMs := interval.toNat
          postedRetries := posted.toNat
          lifetimeMs := (wordOf lifeLow lifeHigh).toNat
          quota := quota.toNat }
      if r.inRange then some r else none
    | _, _, _ => none
  | _ => none

/-! ### Fields of the requests (R185) -/

/-- SET_LINK's fields as they stand in the message. -/
structure SetLinkFields where
  replayTimeout : Nat
  hostLossTimeout : Nat
  action : Byte
  deriving DecidableEq, Repr

/-- A transfer request's fields as they stand in the message. -/
structure TransferFields where
  address : Byte
  budget : Byte
  count : Byte
  data : List Byte
  deriving DecidableEq, Repr

/-- A request of no fields: two bytes. -/
def parseBare : Message → Option Unit
  | [_, _] => some ()
  | _ => none

/-- A request of one byte: GET_STATUS's flag, CANCEL's target, a slot. -/
def parseByte : Message → Option Byte
  | [_, _, b] => some b
  | _ => none

/-- SET_LINK. -/
def parseSetLink : Message → Option SetLinkFields
  | [_, _, low, high, loss, action] => some ⟨(wordOf low high).toNat, loss.toNat, action⟩
  | _ => none

/-- SET_SLOT_MAP: the entry count must be 8 and eight entries follow. -/
def parseSetSlotMap : Message → Option (List Byte)
  | _ :: _ :: count :: entries => if count = 8 ∧ entries.length = 8 then some entries else none
  | _ => none

/-- A request of a slot alone. -/
def parseSlot (m : Message) : Option (Byte × Unit) := (parseByte m).map fun slot => (slot, ())

/-- SLOT_CONFIGURE: a slot and a record of fifteen bytes. -/
def parseConfigure : Message → Option (Byte × List Byte)
  | _ :: _ :: slot :: record => if record.length = 15 then some (slot, record) else none
  | _ => none

/-- A slot and one byte: SLOT_POWER_OFF's mode, PULSE_RESET's length. -/
def parseSlotByte : Message → Option (Byte × Byte)
  | [_, _, slot, b] => some (slot, b)
  | _ => none

/-- POST_WRITE. It carries no budget (R61). -/
def parsePostWrite : Message → Option (Byte × TransferFields)
  | _ :: _ :: slot :: address :: count :: data =>
    if data.length = count.toNat then some (slot, ⟨address, 0, count, data⟩) else none
  | _ => none

/-- WRITE. -/
def parseWrite : Message → Option (Byte × TransferFields)
  | _ :: _ :: slot :: address :: budget :: count :: data =>
    if data.length = count.toNat then some (slot, ⟨address, budget, count, data⟩) else none
  | _ => none

/-- READ: `count` is the read count, `data` the bytes written before the read. -/
def parseRead : Message → Option (Byte × TransferFields)
  | _ :: _ :: slot :: address :: budget :: count :: pre :: data =>
    if data.length = pre.toNat then some (slot, ⟨address, budget, count, data⟩) else none
  | _ => none

/-- SLOT_POWER_OFF's mode, where the message spells one (R186): false ABORT, true DRAIN. -/
def powerOffMode (m : Message) : Option Bool := (parseSlotByte m).bind fun fields => flagOf fields.2

/-! ### Ranges (R54) -/

/-- SET_LINK's ranges. -/
def SetLinkFields.inRange (f : SetLinkFields) : Bool :=
  decide (5 ≤ f.replayTimeout ∧ f.replayTimeout ≤ 500 ∧ f.hostLossTimeout ≤ 255) && (lossActionOf f.action).isSome

/-- Ranges of a WRITE or POST_WRITE. -/
def TransferFields.writeInRange (f : TransferFields) : Bool :=
  decide (f.address.toNat ≤ 127 ∧ 1 ≤ f.count.toNat ∧ f.count.toNat ≤ 32 ∧ f.budget.toNat ≤ 15)

/-- Ranges of a READ. -/
def TransferFields.readInRange (f : TransferFields) : Bool :=
  decide (f.address.toNat ≤ 127 ∧ f.data.length ≤ 4 ∧ 1 ≤ f.count.toNat ∧ f.count.toNat ≤ 32 ∧ f.budget.toNat ≤ 15)

/-- The table of a SET_SLOT_MAP, when every entry is in range. -/
def tableOf (entries : List Byte) : Option (Vector (Option ConnId) 8) :=
  match entries.map mapEntryOf with
  | [some a, some b, some c, some d, some e, some f, some g, some h] => some #v[a, b, c, d, e, f, g, h]
  | _ => none

end Sys2Proof.Machine
end

