-- ==== Sys2Proof/Machine/Formats.lean ====
section
/-! DEFINITION. The bytes of the messages the part sends: codes, records, response bodies and event bodies (R184, R186,
R187, section 9.6). -/

namespace Sys2Proof.Machine

/-! ### Codes (R186) -/

/-- Connector state codes. -/
def ConnState.code : ConnState → Byte
  | .unused => 0x00
  | .empty => 0x01
  | .off => 0x02
  | .powering => 0x03
  | .on => 0x04
  | .draining => 0x05
  | .cooldown => 0x06
  | .faulted => 0x07

/-- Cause codes. -/
def Cause.code : Cause → Byte
  | .inserted => 0x01
  | .removed => 0x02
  | .autoOn => 0x03
  | .powerGood => 0x04
  | .overcurrent => 0x05
  | .pgLost => 0x06
  | .pgTimeout => 0x07
  | .retry => 0x08
  | .hostOn => 0x09
  | .hostOff => 0x0A
  | .hostDrain => 0x0B
  | .drained => 0x0C
  | .faultCleared => 0x0D
  | .hostLoss => 0x0E
  | .mapped => 0x0F
  | .unmapped => 0x10

/-- Status codes. -/
def Status.code : Status → Byte
  | .ok => 0x00
  | .unknownRequest => 0x01
  | .badLength => 0x02
  | .badParam => 0x03
  | .badSlot => 0x04
  | .tagInUse => 0x05
  | .poolFull => 0x06
  | .quotaFull => 0x07
  | .slotNotReady => 0x08
  | .faultLatched => 0x09
  | .mapConflict => 0x0A
  | .notFound => 0x0B
  | .restarting => 0x0C
  | .noTarget => 0x20
  | .dataRefused => 0x21
  | .busStuck => 0x22
  | .busHung => 0x23
  | .slotFault => 0x24
  | .removed => 0x25
  | .poweredOff => 0x26
  | .expired => 0x27
  | .cancelled => 0x28

/-- Engine state codes. -/
def EngineState.code : EngineState → Byte
  | .off => 0x00
  | .idle => 0x01
  | .busy => 0x02
  | .aborting => 0x03
  | .clearing => 0x04
  | .hung => 0x05

/-- Link state codes. -/
def LinkState.code : LinkState → Byte
  | .start => 0x00
  | .up => 0x01
  | .down => 0x02

/-- Reset cause codes. -/
def ResetCause.code : ResetCause → Byte
  | .powerOn => 0x01
  | .pin => 0x02
  | .restart => 0x03

/-- Host-loss action codes. -/
def HostLossAction.code : HostLossAction → Byte
  | .hold => 0x00
  | .powerOffAll => 0x01

/-- bus_speed codes. -/
def BusSpeed.code : BusSpeed → Byte
  | .khz100 => 0x00
  | .khz400 => 0x01

/-- A flag byte. -/
def flagByte (b : Bool) : Byte := if b then 0x01 else 0x00

/-- A one-byte count or number. -/
def countByte (n : Nat) : Byte := BitVec.ofNat 8 n

/-- A two-byte count, least significant byte first. -/
def countWord (n : Nat) : List Byte := wordBytes (BitVec.ofNat 16 n)

/-- A connector number. -/
def connByte (c : ConnId) : Byte := BitVec.ofNat 8 c.val

/-- A Slot Map entry. -/
def mapEntryByte : Option ConnId → Byte
  | some c => connByte c
  | none => Config.noConnector

/-! ### Records (section 9.6) -/

/-- The slot configuration record, 15 bytes. -/
def SlotConfig.encode (r : SlotConfig) : List Byte :=
  [flagByte r.autoPower, flagByte r.autoRetry, countByte r.inrushMs, countByte r.qualifyMs]
    ++ countWord r.pgDeadlineMs
    ++ [countByte r.retryDelay, countByte r.recurrenceWindow, countByte r.debounceMs, r.busSpeed.code,
        countByte r.retryIntervalMs, countByte r.postedRetries]
    ++ countWord r.lifetimeMs ++ [countByte r.quota]

/-- The inputs and attention byte: PRES, PG, OC, ATTN, armed from bit 0 up. -/
def SlotStatusRecord.inputsByte (r : SlotStatusRecord) : Byte :=
  BitVec.ofBool r.armed ++ BitVec.ofBool r.attnAsserted ++ BitVec.ofBool r.ocAsserted
    ++ BitVec.ofBool r.pgAsserted ++ BitVec.ofBool r.presAsserted |>.setWidth 8

/-- The slot status record, 27 bytes. -/
def SlotStatusRecord.encode (r : SlotStatusRecord) : List Byte :=
  [connByte r.conn, countByte r.slot, r.state.code, countByte r.faultCounter.val, r.inputsByte, r.engine.code,
    countByte r.held, countByte r.waiting, countByte r.active, countByte r.backoff]
    ++ wordBytes r.nextPosting ++ r.config.encode

/-- The part status record, 27 bytes. -/
def PartStatusRecord.encode (r : PartStatusRecord) : List Byte :=
  countWord Config.partCode
    ++ [countByte Config.revision, r.linkRate.setWidth 8, r.strapDisabled, r.resetCause.code, countByte r.poolUsed,
        countByte r.placesInUse, countByte r.eventDepth, countByte r.lostEvents, r.linkState.code]
    ++ countWord r.counters.formatDiscards ++ countWord r.counters.gaps ++ countWord r.counters.duplicates
    ++ countWord r.counters.replays ++ countWord r.counters.linkDowns ++ countWord r.counters.protocolErrors
    ++ countWord r.replayTimeout ++ [countByte r.hostLossTimeout, r.hostLossAction.code]

/-! ### Messages (R184, R187) -/

/-- A response body. -/
def ResponseBody.encode : ResponseBody → List Byte
  | .empty => []
  | .posted conn slot number => [connByte conn, countByte slot] ++ wordBytes number
  | .acked conn slot n => [connByte conn, countByte slot, countByte n]
  | .readData conn slot n data => [connByte conn, countByte slot, countByte n] ++ data
  | .place conn slot => [connByte conn, countByte slot]
  | .power conn slot state counter => [connByte conn, countByte slot, state.code, countByte counter.val]
  | .slotStatus r => r.encode
  | .slotMap table disabled => table.toList.map mapEntryByte ++ [disabled]
  | .target tag => [tag]
  | .partStatus r => r.encode

/-- A response message. -/
def Response.encode (r : Response) : Message :=
  [0x80, r.tag, r.code, r.status.code] ++ r.body.encode

/-- An event message. -/
def Event.encode : Event → Message
  | .started cause => [0x40, cause.code]
  | .slotState r =>
    [0x41, connByte r.conn, countByte r.slot, r.fromState.code, r.toState.code, r.cause.code,
      countByte r.faultCounter.val, countByte r.transitions]
  | .postedFailed conn slot number status acked =>
    [0x42, connByte conn, countByte slot] ++ wordBytes number ++ [status.code, countByte acked]
  | .attention conn slot => [0x43, connByte conn, countByte slot]
  | .hostLoss action moved => [0x44, action.code, moved]
  | .eventsLost count => [0x45, countByte count]

end Sys2Proof.Machine
end

