-- ==== Sys2Proof/Machine/Ops.lean ====
section
/-! DEFINITION. The operations the commands share that belong to no single block: queueing responses and events, acting
on one connector, and taking messages from the admission queue. -/

namespace Sys2Proof.Machine

/-! ### Outbound Unit -/

/-- A response joins the tail of the Response Queue (R121). -/
def Outbound.respond (o : Outbound) (r : Response) : Outbound :=
  { o with responses := o.responses ++ [r] }

/-- The event is a SLOT_STATE record of the connector. -/
def Event.isStateOf (c : ConnId) : Event → Bool
  | .slotState r => r.conn == c
  | .started _ | .postedFailed _ _ _ _ _ | .attention _ _ | .hostLoss _ _ | .eventsLost _ => false

/-- The event is an ATTENTION record of the connector. -/
def Event.isAttentionOf (c : ConnId) : Event → Bool
  | .attention d _ => d == c
  | .started _ | .slotState _ | .postedFailed _ _ _ _ _ | .hostLoss _ _ | .eventsLost _ => false

/-- A pending SLOT_STATE record takes a newer transition (R126). -/
def SlotStateRecord.merge (old new : SlotStateRecord) : SlotStateRecord :=
  { old with
    slot := new.slot
    toState := new.toState
    cause := new.cause
    faultCounter := new.faultCounter
    transitions := bump Config.transitionsMax old.transitions }

/-- Merging into a pending record of the same connector; other records are left (R126). -/
def Event.absorb (new : SlotStateRecord) : Event → Event
  | .slotState old => if old.conn = new.conn then .slotState (old.merge new) else .slotState old
  | e => e

/-- Steps 3 and 4 of R123: a new record at the tail where a place is free, a counted loss otherwise (R130). -/
def Outbound.place (o : Outbound) (e : Event) : Outbound :=
  if o.events.length < Config.eventPlaces then { o with events := o.events ++ [e] }
  else { o with lostEvents := bump Config.lostEventsMax o.lostEvents }

/-- An event is raised: merged, absorbed, placed or lost (R123). -/
def Outbound.raise (o : Outbound) (e : Event) : Outbound :=
  match e with
  | .slotState r =>
    if o.events.any (Event.isStateOf r.conn) then { o with events := o.events.map (Event.absorb r) } else o.place e
  | .attention c _ => if o.events.any (Event.isAttentionOf c) then o else o.place e
  | .started _ | .postedFailed _ _ _ _ _ | .hostLoss _ _ | .eventsLost _ => o.place e

/-! ### Acting on one connector -/

/-- What the blocks of one connector reach (R1): the connector itself, the slot that leads to it, and the Outbound
Unit. -/
structure Site where
  id : ConnId
  slot : Nat
  conn : Connector
  out : Outbound

/-- The site of a connector. -/
def State.site (s : State) (c : ConnId) : Site := ⟨c, s.slotOf c, s.conns[c], s.out⟩

/-- The state with a connector's site put back: only that connector and the Outbound Unit can have changed (R1). -/
def State.putSite (s : State) (c : ConnId) (t : Site) : State :=
  { s with conns := s.conns.set c t.conn, out := t.out }

/-- An action of one connector's blocks. -/
def State.onSite (s : State) (c : ConnId) (f : Site → Site) : State := s.putSite c (f (s.site c))

/-- The connector's blocks change the connector. -/
def Site.setConn (t : Site) (k : Connector) : Site := { t with conn := k }

/-- The connector's blocks raise an event. -/
def Site.raise (t : Site) (e : Event) : Site := { t with out := t.out.raise e }

/-- The connector's blocks queue a response. -/
def Site.respond (t : Site) (r : Response) : Site := { t with out := t.out.respond r }

/-- One transition of the connector and its SLOT_STATE event (R47, R124). -/
def Site.enter (t : Site) (dest : ConnState) (cause : Cause) : Site :=
  let record : SlotStateRecord :=
    { conn := t.id, slot := t.slot, fromState := t.conn.state, toState := dest, cause,
      faultCounter := t.conn.faultCounter, transitions := 1 }
  (t.setConn { t.conn with state := dest }).raise (.slotState record)

/-! ### Outcomes and admission -/

/-- What a step answers. -/
abbrev Answer := Host.Outcome State Fault Refusal

/-- A command acts unless a device reset is in progress, when it finds nothing to act on (R7, R178; log entry 3). -/
def State.whenRunning (s : State) (f : State → State) : Answer :=
  .next (if s.resetting.isNone then f s else s)

/-- A response is queued (R121). -/
def State.respond (s : State) (r : Response) : State := { s with out := s.out.respond r }

/-- The Admission Unit takes the message at the head of its queue, if it is one that the step is about (R51). -/
def State.takeMessage (s : State) (accepts : Message → Bool) (finish : State → Message → State) : State :=
  match s.admissionQueue with
  | m :: rest => if accepts m then finish { s with admissionQueue := rest } m else s
  | [] => s

/-- A refusal: code and tag echoed, the status, an empty body (R53, R122). -/
def State.refuse (s : State) (m : Message) (status : Status) : State :=
  s.respond { code := codeOf m, tag := tagOf m, status, body := .empty }

/-- Checks 2, 3 and 4 of R53. -/
def State.earlyRefusal (s : State) (tag : Byte) : Option Status :=
  if 32 ≤ tag.toNat then some .badParam
  else if s.restartPending then some .restarting
  else if (s.tagHolder tag).isSome then some .tagInUse
  else none

/-- Checks 7, 8 and 9 of R53 (R55, R56, R57). -/
def State.busRefusal (s : State) (c : ConnId) : Option Status :=
  let k := s.conns[c]
  if ¬(k.state = .powering ∨ k.state = .on) then some .slotNotReady
  else if k.config.quota ≤ k.queue.length then some .quotaFull
  else if Config.poolSize ≤ s.poolUsed then some .poolFull
  else none

/-- Admission of a request that names no slot: checks 1, 2, 3, 4 and 6 (R53), then the owner's action. `act` is given
the state with the message taken, the tag and the fields. -/
def State.admitPart {α : Type} (s : State) (accepts : Message → Bool) (parse : Message → Option α)
    (inRange : α → Bool) (act : State → Byte → α → State) : State :=
  s.takeMessage accepts fun s m =>
    match parse m with
    | none => s.refuse m .badLength
    | some fields =>
      match s.earlyRefusal (tagOf m) with
      | some status => s.refuse m status
      | none => if inRange fields then act s (tagOf m) fields else s.refuse m .badParam

/-- Admission of a request that names a slot: checks 1 to 6 (R53), then the owner's action on the connector the slot
resolves to. `parse` gives the slot byte and the other fields. -/
def State.admitSlot {α : Type} (s : State) (accepts : Message → Bool) (parse : Message → Option (Byte × α))
    (inRange : α → Bool) (act : State → Byte → Byte → ConnId → α → State) : State :=
  s.takeMessage accepts fun s m =>
    match parse m with
    | none => s.refuse m .badLength
    | some (slot, fields) =>
      match s.earlyRefusal (tagOf m) with
      | some status => s.refuse m status
      | none =>
        match s.resolve slot with
        | none => s.refuse m .badSlot
        | some c => if inRange fields then act s (tagOf m) slot c fields else s.refuse m .badParam

/-- Admission of a bus-class request: checks 1 to 9 (R53), then the allocation of its entry. -/
def State.admitBus {α : Type} (s : State) (code : Byte) (parse : Message → Option (Byte × α))
    (inRange : α → Bool) (act : State → Byte → Byte → ConnId → α → State) : State :=
  s.admitSlot (hasCode code) parse inRange fun s tag slot c fields =>
    match s.busRefusal c with
    | some status => s.respond { code, tag, status, body := .empty }
    | none => act s tag slot c fields

end Sys2Proof.Machine
end

