-- ==== Sys2Proof/Machine/BusEngine.lean ====
section
/-! DEFINITION. The Bus Engine's own rules: the elements of a transfer attempt (R104, R107, R108), the phases it goes
through (R101), the reports it can make from where it stands (R109, R110), and the course of a bus clear (R112). -/

namespace Sys2Proof.Machine

/-- The address byte: seven address bits, then 0 for write and 1 for read (R104). -/
def addressByte (address : Byte) (reading : Bool) : Byte :=
  (address <<< 1) ||| (if reading then 1 else 0)

/-- A data byte, as counted by bytes acknowledged (R109). -/
def BusElement.isData : BusElement → Bool
  | .sent _ | .received _ => true
  | .start | .repeatedStart | .address _ | .stop => false

/-- The received bytes of a read: all acknowledged but the last (R108). -/
def receivedElements : Nat → List BusElement
  | 0 => []
  | 1 => [.received true]
  | n + 2 => .received false :: receivedElements (n + 1)

/-- The elements of an attempt in order (R107, R108). -/
def Attempt.elements (a : Attempt) : List BusElement :=
  match a.readCount with
  | none =>
    [.start, .address (addressByte a.address false)] ++ a.writeBytes.map .sent ++ [.stop]
  | some n =>
    let lead :=
      if a.writeBytes = [] then []
      else .address (addressByte a.address false) :: a.writeBytes.map .sent ++ [.repeatedStart]
    [.start] ++ lead ++ [.address (addressByte a.address true)] ++ receivedElements n ++ [.stop]

/-- What stands after the first `n` data bytes. -/
def afterData : Nat → List BusElement → List BusElement
  | 0, es => es
  | _ + 1, [] => []
  | n + 1, e :: es => if e.isData then afterData n es else afterData (n + 1) es

/-- The elements after the bytes completed so far: where the attempt stands. -/
def Attempt.remaining (a : Attempt) : List BusElement := afterData a.completed a.elements

/-- The data byte that completes next, if one is left. -/
def Attempt.nextData (a : Attempt) : Option BusElement := a.remaining.find? BusElement.isData

/-! ### Phases (R101) -/

/-- The data bytes of the whole attempt: the bytes written, then the bytes read. -/
def Attempt.total (a : Attempt) : Nat := a.writeBytes.length + a.readCount.getD 0

/-- The phase that follows once the element in progress is finished (R107, R108). -/
def Attempt.nextPhase (a : Attempt) : TransferPhase :=
  match a.phase with
  | .busCheck => .start
  | .start => if a.readCount.isSome ∧ a.writeBytes = [] then .readAddress else .writeAddress
  | .writeAddress | .writeBytes =>
    if a.completed < a.writeBytes.length then .writeBytes else if a.readCount.isSome then .repeatedStart else .stop
  | .repeatedStart => .readAddress
  | .readAddress | .readBytes => if a.completed < a.total then .readBytes else .stop
  | .stop => .stop

/-- The next phase begins with its element's first line step. -/
def Attempt.moveOn (a : Attempt) : Attempt := { a with phase := a.nextPhase, lineStep := 0, sampled := [] }

/-- The bus is free and the transfer begins with a start (R106). -/
def Attempt.begun (a : Attempt) : Attempt := { a with phase := .start, lineStep := 0, sampled := [] }

/-- A byte sent is not acknowledged: a stop follows (R107, R108). -/
def Attempt.refuse (a : Attempt) (byte : RefusedByte) : Attempt :=
  { a with phase := .stop, lineStep := 0, sampled := [], refused := some byte }

/-! ### Reports (R107 to R110)

A report stands for the line steps that the engine has not ticked through before it (log entry 6), so it is taken where
what the data line has read so far can lead to it. -/

/-- The bits of a byte, most significant first (R104). -/
def bitsOf (b : Byte) : List Bool := [b.getMsbD 0, b.getMsbD 1, b.getMsbD 2, b.getMsbD 3, b.getMsbD 4, b.getMsbD 5,
  b.getMsbD 6, b.getMsbD 7]

/-- The byte of readings of the data line, most significant first (R104). -/
def byteOfReadings (readings : List Bool) : Byte :=
  readings.foldl (fun b high => (b <<< 1) ||| (if high then 1 else 0)) 0

/-- The value is what the readings taken so far and the value's own remaining bits make. -/
def Attempt.reads (a : Attempt) (value : Byte) : Bool :=
  byteOfReadings (a.sampled ++ (bitsOf value).drop a.sampled.length) == value

/-- An address byte is in progress or comes next: no reading has taken it as acknowledged. -/
def Attempt.addressPending (a : Attempt) : Bool :=
  match a.phase with
  | .busCheck | .start | .writeAddress | .repeatedStart | .readAddress => true
  | .writeBytes | .readBytes | .stop => false

/-- A byte of data to be sent is in progress or comes next, and no reading has taken it as acknowledged. -/
def Attempt.sendPending (a : Attempt) : Bool :=
  match a.nextData with
  | some (.sent _) => a.sampled.isEmpty
  | some _ | none => false

/-- An outcome that the attempt can reach from where it stands (R107, R108, R110): after a refused byte the refusal, else
DONE once every byte is completed, or the refusal of an address byte or of a byte of data still to come. -/
def Attempt.canEnd (a : Attempt) (outcome : AttemptOutcome) : Bool :=
  match a.refused, outcome with
  | none, .done => a.nextData.isNone
  | none, .addressNak => a.addressPending
  | none, .dataNak => a.sendPending
  | some .address, .addressNak | some .data, .dataNak => true
  | some _, .done | some .address, .dataNak | some .data, .addressNak | none, .stuckAtStart | some _, .stuckAtStart => false

/-- Line steps of the eight data bits of a byte, three to a clock period (R104). -/
def bitSteps : Nat := 24

/-- The next data byte is completed (R107, R108). A sent one has been acknowledged, and the next element begins; a
received one brings its value at its eighth bit, and its acknowledge period follows. -/
def Attempt.complete (a : Attempt) (value : Byte) : Option Attempt :=
  match a.refused, a.nextData with
  | none, some (.sent _) => some { a with phase := .writeBytes, completed := a.completed + 1 }.moveOn
  | none, some (.received _) =>
    if a.reads value then
      some
        { a with
          phase := .readBytes
          lineStep := bitSteps
          sampled := []
          completed := a.completed + 1
          received := a.received ++ [value] }
    else none
  | some _, _ | none, some _ | none, none => none

/-- The attempt of an entry, at the bus speed of the moment it is taken (R78, R103), before its bus check. -/
def Attempt.ofEntry (e : Entry) (speed : BusSpeed) : Attempt where
  address := e.address.getD 0
  writeBytes := e.writeBytes
  readCount := e.readCount
  speed := speed
  phase := .busCheck
  lineStep := 0
  sampled := []
  completed := 0
  received := []
  refused := none

/-! ### Bus clears (R112) -/

/-- A clear at its beginning, at a speed. -/
def BusClear.begun (speed : BusSpeed) : BusClear := ⟨speed, 0, .release, 0⟩

/-- The next stage of a clear begins with its first line step. -/
def BusClear.goTo (b : BusClear) (stage : ClearStage) : BusClear := { b with stage, lineStep := 0 }

/-- A reading of the data line (R112): the one of step 2, or the one of a clock pulse, which makes the pulse count. High
leads to the stop; low leads to a pulse, or, read in the ninth pulse, to failure. -/
def BusClear.read (b : BusClear) (dataHigh : Bool) : BusClear :=
  match b.stage with
  | .release => b.goTo (if dataHigh then .stop else .pulse)
  | .pulse =>
    { b with pulses := b.pulses + 1 }.goTo
      (if dataHigh then .stop else if b.pulses + 1 < Config.clearPulses then .pulse else .ended false)
  | .stop | .ended _ => b

/-- The readings of the data line from where a clear stands; `none` where they run past its last one. -/
def BusClear.readAll : BusClear → List Bool → Option BusClear
  | b, [] => some b
  | b, high :: rest =>
    match b.stage with
    | .release | .pulse => (b.read high).readAll rest
    | .stop | .ended _ => none

/-- Success or failure of a clear, by the readings of the data line still to come and what both lines read at step 5: the
data line came high, and after the stop both lines read high. `none` where the readings stop short of an end or run
past it. A clear that has ended keeps its result. -/
def BusClear.result (b : BusClear) (data : List Bool) (after : BusLines) : Option Bool :=
  match (b.readAll data).map BusClear.stage with
  | some .stop => some (linesFree after)
  | some (.ended success) => some success
  | some .release | some .pulse | none => none

end Sys2Proof.Machine
end

