-- ==== Sys2Proof/Machine/Signalling.lean ====
section
/-! DEFINITION. Signalling on a module bus (R104): the line steps of each element, what the engine drives and samples in
each, its stretch timer (R105), the element an abort finishes (R115), and one tick of the part (log entry 13). -/

namespace Sys2Proof.Machine

/-! ### Line steps (R104) -/

/-- One moment of the two lines: which of them the engine drives low, a line not driven low being released; whether the
clock has just been released and is waited for (R105); whether the lines are sampled. -/
structure LineStep where
  clockLow : Bool
  dataLow : Bool
  waits : Bool
  samples : Bool
  deriving DecidableEq, Repr

/-- Both lines released. -/
def LineStep.released : LineStep := ⟨false, false, false, false⟩

/-- One clock period: the data line is set in the low phase, the clock is released and waited for, and the data line
holds still in the high phase, in which it may be sampled. -/
def clockPeriod (dataLow samples : Bool) : List LineStep :=
  [⟨true, dataLow, false, false⟩, ⟨false, dataLow, true, false⟩, ⟨false, dataLow, false, samples⟩]

/-- A start made while both lines are high: the data line falls while the clock line stays high. -/
def startSteps : List LineStep := [LineStep.released, ⟨false, true, false, false⟩]

/-- A stop: with the clock low the data line is driven low, the clock is released and waited for, and the data line is
released. -/
def stopSteps : List LineStep := [⟨true, true, false, false⟩, ⟨false, true, true, false⟩, LineStep.released]

/-- The line steps of a signalling element: a byte sent is eight bits and an acknowledge period with the data line
released and sampled; a byte received is eight bits with the data line released and sampled and an acknowledge period in
which it is driven low, or left released after the last byte (R108). -/
def BusElement.steps : BusElement → List LineStep
  | .start => startSteps
  | .repeatedStart => [⟨true, false, false, false⟩, ⟨false, false, true, false⟩] ++ startSteps
  | .address b | .sent b => ((bitsOf b).flatMap fun bit => clockPeriod (!bit) false) ++ clockPeriod false true
  | .received last => (List.replicate 8 (clockPeriod false true)).flatten ++ clockPeriod (!last) false
  | .stop => stopSteps

/-- The line steps of a stage of a bus clear (R112): both lines released, the clock waited for and the data line read; a
clock pulse with its reading; a stop, and both lines read. A clear that has ended drives neither line. -/
def ClearStage.steps : ClearStage → List LineStep
  | .release => [⟨false, false, true, false⟩, ⟨false, false, false, true⟩]
  | .pulse => clockPeriod false true
  | .stop => stopSteps ++ [⟨false, false, false, true⟩]
  | .ended _ => [LineStep.released]

/-! ### The element in progress -/

/-- The element an attempt has in progress, by the phase reached and the bytes completed (R101, R107, R108). A received
byte counts as completed from its eighth bit on, while its acknowledge period is still to come. -/
def Attempt.element (a : Attempt) : Option BusElement :=
  match a.phase with
  | .busCheck => none
  | .start => some .start
  | .writeAddress => some (.address (addressByte a.address false))
  | .writeBytes => (a.writeBytes[a.completed]?).map .sent
  | .repeatedStart => some .repeatedStart
  | .readAddress => some (.address (addressByte a.address true))
  | .readBytes =>
    some (.received (decide (a.total ≤ if bitSteps ≤ a.lineStep then a.completed else a.completed + 1)))
  | .stop => some .stop

/-- What an abort finishes (R115): the element in progress, a byte received not being acknowledged. DESIGN CHOICE (log
entry 22): an acknowledgement that the engine already drives is withdrawn in the low phase, where the data line may
change, and stands once the clock has been released, where R104 has the data line hold still. The acknowledgement of a
byte sent is not acted on: no outcome follows. -/
def Attempt.finishing (a : Attempt) : BusElement :=
  match a.element with
  | some (.received last) => .received (last || decide (a.lineStep ≤ bitSteps))
  | some .start => .start
  | some .repeatedStart => .repeatedStart
  | some (.address b) => .address b
  | some (.sent b) => .sent b
  | some .stop | none => .stop

/-- The line steps an attempt goes through in its element. -/
def Attempt.elementSteps (a : Attempt) : List LineStep := a.element.elim [] BusElement.steps

/-! ### What the engine drives -/

/-- The line step an engine has reached, while its work uses the bus. -/
def Engine.lineStep : Engine → Option LineStep
  | .transferring a => a.elementSteps[a.lineStep]?
  | .aborting a finishing => finishing.steps[a.lineStep]?
  | .clearing _ b => b.stage.steps[b.lineStep]?
  | .off | .idle | .pulsing _ | .hung => none

/-- What the engine drives on SCL and SDA (R6, R101, R104): both released where it has no work on the bus. -/
def Engine.drives (e : Engine) : LineStep := e.lineStep.getD LineStep.released

/-- The stretch timer (R101, R105): it runs while the clock line, just released, is waited for. -/
def Engine.stretchTimer (e : Engine) : Timer := if e.drives.waits then some Config.stretchLimitMs else none

/-! ### The stretch limit (R105)

STRETCH_LIMIT stands for the line steps up to the wait in which the limit is reached (log entry 6). It can occur where
that wait comes before the engine's next report. -/

/-- In a transfer: not where a byte's report is due, and not past the wait of the stop. -/
def Attempt.mayStretch (a : Attempt) : Bool :=
  match a.phase with
  | .busCheck => false
  | .start | .writeAddress | .repeatedStart | .readAddress => true
  | .writeBytes => a.sampled.isEmpty
  | .readBytes => a.lineStep + 1 != bitSteps
  | .stop => decide (a.lineStep ≤ 1)

/-- In an abort: not past the wait of its stop. -/
def Attempt.abortMayStretch (a : Attempt) (finishing : BusElement) : Bool :=
  finishing != .stop || decide (a.lineStep ≤ 1)

/-- In a clear: not past the wait of its stop. -/
def BusClear.mayStretch (b : BusClear) : Bool :=
  match b.stage with
  | .release | .pulse => true
  | .stop => decide (b.lineStep ≤ 1)
  | .ended _ => false

/-! ### A tick -/

/-- The next line step of the element in progress, or the first of the next element. A stop made is the last one: its
outcome is reported (R107, R108). -/
def Attempt.advance (a : Attempt) : Attempt :=
  if a.lineStep + 1 < a.elementSteps.length then { a with lineStep := a.lineStep + 1 }
  else if a.phase = .stop then a
  else a.moveOn

/-- The data line is sampled (R104, R107, R108): a low acknowledges a byte sent, a high refuses it, and the bits of a
byte received are kept. After the acknowledgement of a byte of data, and after the eighth bit of one received, the
engine's report is due, and the engine stands until BYTE_COMPLETED brings it. -/
def Attempt.sample (a : Attempt) (high : Bool) : Attempt :=
  match a.phase with
  | .writeAddress | .readAddress => if high then a.refuse .address else a.moveOn
  | .writeBytes =>
    if a.sampled ≠ [] then a else if high then a.refuse .data else { a with sampled := [false] }
  | .readBytes =>
    if 8 ≤ a.sampled.length then a
    else if a.sampled.length = 7 then { a with sampled := a.sampled ++ [high] }
    else { a with sampled := a.sampled ++ [high], lineStep := a.lineStep + 1 }
  | .busCheck | .start | .repeatedStart | .stop => a

/-- One line step of a transfer, by what the lines read in it. The engine waits while the clock it has released reads
low (R105). -/
def Attempt.tick (a : Attempt) (reading : BusLines) : Attempt :=
  match a.elementSteps[a.lineStep]? with
  | none => a
  | some step =>
    if step.waits ∧ reading.sclHigh = false then a
    else if step.samples then a.sample reading.sdaHigh
    else a.advance

/-- One line step of an abort: the element in progress to its end, then the stop (R115). What it samples is not acted
on. -/
def abortTick (a : Attempt) (finishing : BusElement) (reading : BusLines) : Engine :=
  match finishing.steps[a.lineStep]? with
  | none => .aborting a finishing
  | some step =>
    if step.waits ∧ reading.sclHigh = false then .aborting a finishing
    else if a.lineStep + 1 < finishing.steps.length then .aborting { a with lineStep := a.lineStep + 1 } finishing
    else if finishing = .stop then .aborting a finishing
    else .aborting { a with phase := .stop, lineStep := 0 } .stop

/-- One line step of a bus clear, by what the lines read in it (R112). -/
def BusClear.tick (b : BusClear) (reading : BusLines) : BusClear :=
  match b.stage.steps[b.lineStep]? with
  | none => b
  | some step =>
    if step.waits ∧ reading.sclHigh = false then b
    else if step.samples then
      if b.stage = .stop then b.goTo (.ended (linesFree reading)) else b.read reading.sdaHigh
    else if b.lineStep + 1 < b.stage.steps.length then { b with lineStep := b.lineStep + 1 }
    else b

/-- A tick of an engine: a line step of its work, by what its lines read; none where it makes no line step. -/
def Engine.tick (reading : Option BusLines) : Engine → Engine
  | .transferring a => .transferring (reading.elim a a.tick)
  | .aborting a finishing => reading.elim (.aborting a finishing) (abortTick a finishing)
  | .clearing purpose b => .clearing purpose (reading.elim b b.tick)
  | .off => .off
  | .idle => .idle
  | .pulsing ms => .pulsing ms
  | .hung => .hung

/-- One tick of the part: each engine makes a line step, or none yet, by what its lines read, and nothing else changes
(log entry 13). -/
def State.tickWith (s : State) (reading : ConnId → Option BusLines) : State :=
  { s with
    ticks := s.ticks + 1
    conns := Vector.ofFn fun c => { s.conns[c] with engine := s.conns[c].engine.tick (reading c) } }

/-- A tick with the readings left free (log entry 21). -/
def State.tick (s : State) : State := s.tickWith (Config.busReading s.ticks)

end Sys2Proof.Machine
end

