-- ==== Sys2Proof/Machine/Sequencer.lean ====
section
/-! DEFINITION. What the Slot Sequencer and the power cut share: the ends of entries, sweeps, drain completions, aborts
and start decisions. -/

namespace Sys2Proof.Machine

/-! ### Reports of ends -/

/-- The final response of a tracked entry (R88). -/
def Entry.finalResponse (e : Entry) (c : ConnId) (status : Status) (data : List Byte) : Response where
  code := e.kind.code
  tag := e.tag
  status := status
  body :=
    match e.kind with
    | .read => if status = .ok then .readData c e.slot e.acked data else .acked c e.slot e.acked
    | .write | .postWrite => .acked c e.slot e.acked
    | .fence | .pulseReset | .clearBus => .place c e.slot

/-- Step 2 of R87: a tracked entry's final response, or a posted entry's POSTED_FAILED unless it ends OK (R89). -/
def Site.reportEnd (t : Site) (e : Entry) (status : Status) (data : List Byte) : Site :=
  if e.posted then
    if status = .ok then t
    else t.raise (.postedFailed t.id e.slot (e.postingNumber.getD 0) status e.acked)
  else t.respond (e.finalResponse t.id status data)

/-! ### Entries in place -/

/-- The first entry that satisfies `p` is changed. -/
def updateFirst (p : Entry → Bool) (f : Entry → Entry) : List Entry → List Entry
  | [] => []
  | e :: es => if p e then f e :: es else e :: updateFirst p f es

/-- An entry, found by its tag, is changed in place. -/
def Site.updateEntry (t : Site) (tag : Byte) (f : Entry → Entry) : Site :=
  t.setConn { t.conn with queue := updateFirst (fun e => e.tag == tag) f t.conn.queue }

/-- An entry's record is freed: it leaves the queue (R63, R73). -/
def Site.free (t : Site) (tag : Byte) : Site :=
  t.setConn { t.conn with queue := t.conn.queue.eraseP fun e => e.tag == tag }

/-! ### Power cut -/

/-- The timers that stop at every power cut and at every transition into an unpowered state (R18). -/
def Connector.stopPowerTimers (k : Connector) : Connector :=
  { k with inrush := none, qualify := none, pgDeadline := none, cooldown := none }

/-- A sweep: every entry ends with the status, oldest first, with no start decision between (R95). -/
def Site.sweep (t : Site) (status : Status) : Site :=
  let swept := t.conn.queue.foldl (fun t e => t.reportEnd e status []) t
  swept.setConn { swept.conn with queue := [] }

/-- Steps 1 to 4 of a power cut (R22); `status` is the status its cause calls for (R23). -/
def Site.powerCut (t : Site) (status : Status) : Site :=
  (t.setConn { t.conn.stopPowerTimers with pen := false, mrst := true, engine := .off }).sweep status

/-- A transition into an unpowered state: the power timers stop, the fault counter takes its value, the event is raised
(R18, R35, R47). -/
def Site.settle (t : Site) (dest : ConnState) (cause : Cause) (counter : Fin 2) : Site :=
  (t.setConn { t.conn.stopPowerTimers with faultCounter := counter }).enter dest cause

/-! ### Ending one entry -/

/-- A drain completes when an end outside a sweep leaves a DRAINING connector's queue empty (R41, R96). -/
def Site.drainCheck (t : Site) : Site :=
  if t.conn.state = .draining ∧ t.conn.queue = [] then (t.powerCut .poweredOff).settle .off .drained 0 else t

/-- Steps 1 to 4 of R87. The caller takes the start decision of step 5. -/
def Site.endEntry (t : Site) (e : Entry) (status : Status) (data : List Byte) : Site :=
  ((t.reportEnd e status data).free e.tag).drainCheck

/-- A pulse ends: MRST_N is released if the connector is ON or DRAINING (R21). -/
def Site.releaseReset (t : Site) : Site :=
  if t.conn.state.usable then t.setConn { t.conn with mrst := false } else t

/-- The engine's work is aborted (R91, R115, R116). -/
def Site.abort (t : Site) : Site :=
  match t.conn.engine with
  | .transferring a => t.setConn { t.conn with engine := .aborting a a.finishing }
  | .pulsing _ => (t.setConn { t.conn with engine := .idle }).releaseReset
  | .clearing (.beforeTransfer a _) b => t.setConn { t.conn with engine := .clearing (.beforeTransfer a true) b }
  | .clearing .requested _ | .clearing .afterStretch _ | .off | .idle | .aborting _ _ | .hung => t

/-- The end of an entry by expiry or cancellation: an ACTIVE entry's work is aborted (R91, R92, R93). -/
def Site.withdraw (t : Site) (e : Entry) (status : Status) : Site :=
  (if e.state = .active then t.abort else t).endEntry e status []

/-! ### Start decisions -/

/-- A chosen entry becomes ACTIVE with its work handed to the engine (R78, R80). -/
def Site.activate (t : Site) (tag : Byte) (engine : Engine) : Site :=
  let t := t.updateEntry tag fun e => { e with state := .active, acked := 0 }
  t.setConn { t.conn with engine }

/-- What a start hands the engine (R78, R80, R103, R106, R117). A FENCE hands it nothing (R79). -/
def Site.launch (t : Site) (e : Entry) (lines : BusLines) : Site :=
  match e.kind with
  | .postWrite | .write | .read =>
    let a := Attempt.ofEntry e t.conn.config.busSpeed
    t.activate e.tag
      (if linesFree lines then .transferring a.begun
      else .clearing (.beforeTransfer a false) (BusClear.begun a.speed))
  | .pulseReset =>
    let t := t.activate e.tag (.pulsing (e.pulseMs.getD 0))
    t.setConn { t.conn with mrst := true }
  | .clearBus => t.activate e.tag (.clearing .requested (BusClear.begun t.conn.config.busSpeed))
  | .fence => t

/-- An entry that ends at its start: any but CLEAR_BUS on a HUNG engine (R81), a FENCE on an IDLE one (R79). -/
def endsAtStart (engine : Engine) (kind : EntryKind) : Option Status :=
  if engine = .hung then (if kind = .clearBus then none else some .busHung)
  else if kind = .fence then some .ok
  else none

/-- Start decisions one after another, as long as each ends its entry at its start (R77). The first argument bounds
their number. -/
def Site.decideStarts : Nat → Site → BusLines → Site
  | 0, t, _ => t
  | n + 1, t, lines =>
    if t.conn.mayStart then
      match t.conn.chosen with
      | none => t
      | some e =>
        match endsAtStart t.conn.engine e.kind with
        | some status => Site.decideStarts n (t.endEntry { e with acked := 0 } status []) lines
        | none => t.launch e lines
    else t

/-- A start decision (R77). Each entry that ends at its start leaves the queue, so the queue's length bounds the
chain. -/
def Site.startDecision (t : Site) (lines : BusLines) : Site :=
  Site.decideStarts (t.conn.queue.length + 1) t lines

end Sys2Proof.Machine
end

