-- ==== Sys2Proof/Machine/Supervisor.lean ====
section
/-! DEFINITION. What the Connector Supervisor's steps share: attention, power-up, faults, presence, the host's power
requests, the map's changes. -/

namespace Sys2Proof.Machine

/-! ### Attention (R45) -/

/-- An ATTENTION event is raised, and the flag cleared, when the flag is set and the input steady in ON or DRAINING. -/
def Site.attentionCheck (t : Site) : Site :=
  if t.conn.state.usable ∧ t.conn.armed ∧ t.conn.steady then
    (t.setConn { t.conn with armed := false }).raise (.attention t.id t.slot)
  else t

/-! ### Power-up (R28, R29) -/

/-- What follows an entry into ON: the attention report, then the start decision (R45, R77; log entry 9). -/
def Site.nowOn (t : Site) (lines : BusLines) : Site := (t.attentionCheck).startDecision lines

/-- POWERING goes to ON as PG is seen (R29, R102). -/
def Site.powerGood (t : Site) (lines : BusLines) : Site :=
  let window :=
    if t.conn.faultCounter = 1 then some (10 * t.conn.config.recurrenceWindow) else t.conn.cooldown
  ((t.setConn { t.conn with pgDeadline := none, mrst := false, engine := .idle, cooldown := window }).enter
    .on .powerGood).nowOn lines

/-- Entry into POWERING from OFF or COOLDOWN (R28): the fault counter is kept, the retry delay has ended. -/
def Site.powerUp (t : Site) (cause : Cause) (lines : BusLines) : Site :=
  let t :=
    (t.setConn
      { t.conn with
        pen := true
        mrst := true
        inrush := some t.conn.config.inrushMs
        pgDeadline := some t.conn.config.pgDeadlineMs
        cooldown := none }).enter .powering cause
  if t.conn.pgAsserted then t.powerGood lines else t

/-! ### Faults (R32, R33, R34) -/

/-- A qualified fault, or a PG deadline, is taken. -/
def Site.takeFault (t : Site) (cause : Cause) : Site :=
  match t.conn.state with
  | .powering | .on =>
    let retry := t.conn.config.autoRetry ∧ t.conn.faultCounter = 0
    let cut := t.powerCut .slotFault
    if retry then
      let t := cut.settle .cooldown cause 1
      t.setConn { t.conn with cooldown := some (10 * t.conn.config.retryDelay) }
    else cut.settle .faulted cause cut.conn.faultCounter
  | .draining => (t.powerCut .slotFault).settle .off cause 0
  | .unused | .empty | .off | .cooldown | .faulted => t

/-- A fault condition that appears starts qualification, at once with qualify_ms 0; one that disappears stops it; one
that persists leaves the timer running (R32). `before` is the condition as it stood. -/
def Site.reviewFault (t : Site) (before : Bool) : Site :=
  match before, t.conn.faultCondition with
  | false, true =>
    if t.conn.config.qualifyMs = 0 then t.takeFault t.conn.faultCause
    else t.setConn { t.conn with qualify := some t.conn.config.qualifyMs }
  | true, false => t.setConn { t.conn with qualify := none }
  | true, true | false, false => t

/-! ### Presence (R25, R26, R27) -/

/-- The debounce timer follows the raw level: started or restarted while it differs from the debounced presence,
stopped otherwise (R25). -/
def Connector.debounceTimer (k : Connector) : Timer :=
  if k.presAsserted = k.state.present then none else some k.config.debounceMs

/-- An insertion is taken on an EMPTY connector (R26). -/
def Site.insertion (t : Site) (lines : BusLines) : Site :=
  let t := t.settle .off .inserted 0
  if t.conn.config.autoPower then t.powerUp .autoOn lines else t

/-- A removal is taken (R27). -/
def Site.removal (t : Site) : Site :=
  if t.conn.state.powered then (t.powerCut .removed).settle .empty .removed 0 else t.settle .empty .removed 0

/-! ### Power requests (R38 to R42, R44) -/

/-- Power off at once, as SLOT_POWER_OFF in mode ABORT and the host-loss action do (R39, R44). -/
def Site.powerOffNow (t : Site) (cause : Cause) : Site :=
  match t.conn.state with
  | .powering | .on | .draining => (t.powerCut .poweredOff).settle .off cause 0
  | .cooldown => t.settle .off cause 0
  | .unused | .empty | .off | .faulted => t

/-- SLOT_POWER_ON by state (R38). -/
def Site.powerOn (t : Site) (lines : BusLines) : Site :=
  match t.conn.state with
  | .off | .cooldown => t.powerUp .hostOn lines
  | .draining => (t.enter .on .hostOn).nowOn lines
  | .unused | .empty | .powering | .on | .faulted => t

/-- The status SLOT_POWER_ON is answered with, by the state it finds (R38). -/
def ConnState.powerOnStatus : ConnState → Status
  | .empty => .slotNotReady
  | .faulted => .faultLatched
  | .unused | .off | .powering | .on | .draining | .cooldown => .ok

/-- SLOT_POWER_OFF in mode DRAIN by state (R40). -/
def Site.powerOffDrain (t : Site) : Site :=
  match t.conn.state with
  | .on =>
    if t.conn.queue = [] then (t.powerCut .poweredOff).settle .off .drained 0 else t.enter .draining .hostDrain
  | .powering | .cooldown => t.powerOffNow .hostOff
  | .unused | .empty | .off | .draining | .faulted => t

/-- SLOT_CLEAR_FAULT by state (R42). -/
def Site.clearFault (t : Site) : Site :=
  if t.conn.state = .faulted then t.settle .off .faultCleared 0 else t

/-- The supervisor's response to a power request (R43). -/
def Site.answerPower (t : Site) (code tag slot : Byte) (status : Status) : Site :=
  t.respond { code, tag, status, body := .power t.id slot.toNat t.conn.state t.conn.faultCounter }

/-! ### The map (R15) -/

/-- A connector leaves the map. -/
def Site.unmap (t : Site) : Site :=
  (t.setConn { t.conn with debounce := none, attnTimer := none, steady := false, armed := false }).settle
    .unused .unmapped 0

/-- A connector enters the map: debounce and attention start afresh from EMPTY (R15, R45). -/
def Connector.enterMap (k : Connector) : Connector :=
  { k with
    debounce := if k.presAsserted then some k.config.debounceMs else none
    attnTimer := if k.attnAsserted then some Config.attentionMs else none
    steady := false }

/-- A connector enters the map (R15). -/
def Site.map (t : Site) : Site := (t.setConn t.conn.enterMap).settle .empty .mapped 0

end Sys2Proof.Machine
end

