-- ==== Sys2Proof/Machine/LinkOps.lean ====
section
/-! DEFINITION. What the Link Interface's steps share: acknowledgements, resend passes, synchronisation, loss of the
link, and the device reset that a RESTART or the outside begins. -/

namespace Sys2Proof.Machine

/-! ### Device reset begins (R178) -/

/-- The three sources of a device reset (R178). -/
inductive ResetSource where
  | powerOn | pin | restart
  deriving DecidableEq, Repr

/-- A source takes part in the reset in progress (R179). -/
def ResetSources.add (r : ResetSources) : ResetSource → ResetSources
  | .powerOn => { r with powerOn := true }
  | .pin => { r with pin := true }
  | .restart => { r with restart := true }

/-- A connector as a device reset begins: outputs safe, timers stopped, entries and work discarded (R178). -/
def Connector.beginReset (k : Connector) : Connector :=
  { k.stopPowerTimers with pen := false, mrst := true, engine := .off, debounce := none, attnTimer := none, queue := [] }

/-- The link as a device reset begins: TXD idle, timers stopped, frames discarded, the receiver ignoring bytes
(R178). -/
def Link.beginReset (l : Link) : Link :=
  { l with
    rx := .hunting
    ackPending := false
    spacing := none
    replay := []
    syncAck := none
    naks := []
    replayTimer := none
    holdPause := none
    hostLoss := none
    sending := none }

/-- A device reset begins, or a source joins the one in progress (R178). Log entry 12: what a block holds while the
reset lasts. -/
def State.beginReset (s : State) (source : ResetSource) : State :=
  match s.resetting with
  | some sources => { s with resetting := some (sources.add source) }
  | none =>
    { s with
      conns := s.conns.map Connector.beginReset
      admissionQueue := []
      restartPending := false
      out := { s.out with responses := [], events := [] }
      link := s.link.beginReset
      control := { s.control with restartGuard := none }
      resetting := some (ResetSources.add ⟨false, false, false⟩ source) }

/-! ### Receiving -/

/-- A link step about a received frame: the bytes end with a checked frame, and the receiver hunts again (R141). Bytes
that do not are no such event (log entry 3). -/
def State.onFrame (s : State) (raw : List RxByte) (f : State → HostFrame → State) : State :=
  match receivedFrame s.link.rx raw with
  | some frame => f { s with link := { s.link with rx := .hunting } } frame
  | none => s

/-- A NAK cause becomes pending, once (R139, R150). -/
def Link.addNak (l : Link) (cause : NakCause) : Link :=
  if l.naks.contains cause then l else { l with naks := l.naks ++ [cause] }

/-- Pending NAKs of cause GAP and HOLD are withdrawn (R146, R149). -/
def Link.withdrawNaks (l : Link) : Link := { l with naks := l.naks.filter fun cause => cause == .unsynced }

/-- The protocol-error counter goes up (R165). -/
def Link.protocolError (l : Link) : Link := { l with counters := l.counters.addProtocolError }

/-- A DATA frame in START or DOWN (R147). -/
def Link.unsyncedData (l : Link) : Link :=
  let l := l.protocolError
  if l.spacing.isNone then { l.addNak .unsynced with spacing := some Config.unsyncedSpacingMs } else l

/-- The link's part of an acceptance (R149). -/
def Link.accept (l : Link) : Link :=
  { l.withdrawNaks with expected := l.expected + 1, ackPending := true, gapNakSent := false }

/-- The distance (E − s) modulo 64 of a duplicate (R148). -/
def Link.isDuplicate (l : Link) (number : Seq) : Bool :=
  decide (1 ≤ (l.expected - number).toNat ∧ (l.expected - number).toNat ≤ Config.duplicateWindow)

/-- A duplicate is discarded and acknowledged again (R148). -/
def Link.duplicate (l : Link) : Link := { l with ackPending := true, counters := l.counters.addDuplicate }

/-- A gap is discarded; one NAK(GAP) for each run (R148, R151). -/
def Link.gap (l : Link) : Link :=
  let l := { l with counters := l.counters.addGap }
  if l.gapNakSent then l else { l.addNak .gap with gapNakSent := true }

/-- The receive rule (R148 to R150): acceptance hands the message to admission with its place (R51). -/
def State.receiveData (s : State) (number : Seq) (payload : Message) : State :=
  if number = s.link.expected then
    if s.placesInUse < Config.responsePlaces then
      { s with link := s.link.accept, admissionQueue := s.admissionQueue ++ [payload] }
    else { s with link := s.link.addNak .hold }
  else if s.link.isDuplicate number then { s with link := s.link.duplicate }
  else { s with link := s.link.gap }

/-! ### Sending -/

/-- A resend pass (R155). -/
def Link.resendPass (l : Link) : Link :=
  if l.replay = [] then l
  else { l with replay := l.replay.map (fun f => { f with marked := true }), counters := l.counters.addReplay }

/-- The oldest frame's number, T when the buffer is empty (R156). -/
def Link.oldest (l : Link) : Seq :=
  match l.replay with
  | f :: _ => f.number
  | [] => l.next

/-- How many frames a number acknowledges, if it is valid (R156). -/
def Link.acknowledged (l : Link) (n : Seq) : Option Nat :=
  let k := (n - l.oldest).toNat
  if k ≤ l.replay.length then some k else none

/-- The oldest `k` frames leave the buffer (R156). -/
def Link.removeFrames (l : Link) (k : Nat) (replayTimeout : Nat) : Link :=
  if k = 0 then l
  else
    let rest := l.replay.drop k
    { l with
      replay := rest
      replayCount := 0
      replayTimer := if rest = [] then none else some replayTimeout }

/-- A number received in UP is taken (R156): ignored and counted when invalid; otherwise frames leave, and then either the
restart takes effect (R164) or `cause`, what the frame goes on to do, follows. -/
def State.takeNumber (s : State) (n : Seq) (cause : Link → Link) : State :=
  match s.link.acknowledged n with
  | none => { s with link := s.link.protocolError }
  | some k =>
    let left := { s with link := s.link.removeFrames k s.control.replayTimeout }
    if (s.link.replay.take k).any (fun f => f.restartOk) then left.beginReset .restart
    else { left with link := cause left.link }

/-- An ACK, or a NAK with cause GAP or HOLD (R144): a number in UP, a protocol error otherwise. -/
def State.receiveNumber (s : State) (n : Seq) (cause : Link → Link) : State :=
  match s.link.state with
  | .up => s.takeNumber n cause
  | .start | .down => { s with link := s.link.protocolError }

/-- The HOLD pause starts or restarts (R158). -/
def Link.pause (l : Link) : Link := { l with holdPause := some Config.holdPauseMs }

/-- A frame is made of a message (R154). -/
def Link.frameNew (l : Link) (payload : Message) (restartOk : Bool) (replayTimeout : Nat) : Link :=
  { l with
    replay := l.replay ++ [{ number := l.next, payload, marked := true, restartOk }]
    next := l.next + 1
    replayTimer := if l.replay = [] then some replayTimeout else l.replayTimer }

/-- The link can take a new DATA frame (R132). -/
def Link.hasRoom (l : Link) : Bool :=
  l.state == .up && decide (l.replay.length < Config.replayFrames) && l.holdPause.isNone

/-! ### Link states -/

/-- The link enters DOWN (R146); a host-loss timeout of 0 starts no timer (R163). -/
def Link.enterDown (l : Link) (hostLossTimeout : Nat) : Link :=
  { l.withdrawNaks with
    state := .down
    counters := l.counters.addLinkDown
    replayTimer := none
    holdPause := none
    ackPending := false
    gapNakSent := false
    hostLoss := if hostLossTimeout = 0 then none else some (1000 * hostLossTimeout) }

/-- The part enters DOWN: a pending RESTART takes effect (R146, R164). -/
def State.enterDown (s : State) : State :=
  let s := { s with link := s.link.enterDown s.control.hostLossTimeout }
  if s.restartPending then s.beginReset .restart else s

/-- Frames numbered on from `n` in their order (R161). -/
def renumber : Seq → List ReplayFrame → List ReplayFrame
  | _, [] => []
  | n, f :: fs => { f with number := n } :: renumber (n + 1) fs

/-- A SYNC is taken (R161). -/
def Link.synchronise (l : Link) (replayTimeout : Nat) : Link :=
  Link.resendPass
    { l with
      syncAck := some ⟨l.expected, l.replay.length⟩
      expected := 0
      replay := renumber 0 l.replay
      next := BitVec.ofNat 6 l.replay.length
      naks := []
      ackPending := false
      gapNakSent := false
      replayCount := 0
      holdPause := none
      spacing := none
      hostLoss := none
      state := .up
      replayTimer := if l.replay = [] then none else some replayTimeout }

/-! ### The transmitter (R153) -/

/-- The levels on TXD (R140): the bytes of the frame begun, back to back; the idle line is high. -/
def Link.txdLevels (l : Link) : List Bool :=
  match l.sending with
  | some bytes => bytes.flatMap byteLevels
  | none => [true]

/-- The first marked frame loses its mark as it begins to be sent (R153). -/
def unmarkFirst : List ReplayFrame → List ReplayFrame
  | [] => []
  | f :: fs => if f.marked then { f with marked := false } :: fs else f :: unmarkFirst fs

/-- The transmitter begins the first frame waiting, in the order of R153; with none waiting the line idles (log
entry 10). -/
def Link.transmit (l : Link) : Link :=
  match l.syncAck with
  | some a => { l with syncAck := none, sending := some (syncAckFrameBytes a.expected a.renumbered) }
  | none =>
    match l.naks with
    | cause :: rest => { l with naks := rest, ackPending := false, sending := some (nakFrameBytes cause l.expected) }
    | [] =>
      if l.ackPending then { l with ackPending := false, sending := some (ackFrameBytes l.expected) }
      else if l.state = .up ∧ l.holdPause = none then
        match l.replay.find? (fun f => f.marked) with
        | some f => { l with replay := unmarkFirst l.replay, sending := some (dataFrameBytes f.number f.payload) }
        | none => { l with sending := none }
      else { l with sending := none }

end Sys2Proof.Machine
end

