-- ==== Sys2Proof/Machine/BusRequests.lean ====
section
/-! DEFINITION. The bus-class requests, which become entries of a Slot Queue, and CANCEL (R59 to R62, R67, R68). -/

namespace Sys2Proof.Machine

/-- A new record with what every kind has (R59, R61); the fields a kind lacks are absent. -/
def Entry.fresh (tag : Byte) (kind : EntryKind) (slot : Nat) (config : SlotConfig) : Entry where
  tag := tag
  kind := kind
  slot := slot
  address := none
  writeBytes := []
  readCount := none
  pulseMs := none
  budget := none
  retriesUsed := none
  state := .waiting
  deadline := if config.lifetimeMs = 0 then none else some config.lifetimeMs
  retryTimer := none
  postingNumber := none
  acked := 0

/-- The new entry joins the tail of the Slot Queue, and the sequencer takes a start decision (R62, R77). -/
def Site.append (t : Site) (e : Entry) (lines : BusLines) : Site :=
  (t.setConn { t.conn with queue := t.conn.queue ++ [e] }).startDecision lines

/-- POST_WRITE (R59, R60, R62, R64): the posting number, the OK, then the entry. -/
def Site.admitPosted (t : Site) (tag slot : Byte) (f : TransferFields) (lines : BusLines) : Site :=
  let number := t.conn.postingCounter
  let e : Entry :=
    { Entry.fresh tag .postWrite slot.toNat t.conn.config with
      address := some f.address
      writeBytes := f.data
      budget := some t.conn.config.postedRetries
      retriesUsed := some 0
      postingNumber := some number }
  ((t.setConn { t.conn with postingCounter := number + 1 }).respond
    { code := codePostWrite, tag, status := .ok, body := .posted t.id slot.toNat number }).append e lines

/-- POST_WRITE. -/
def execPostWrite (lines : BusLines) (s : State) : Answer :=
  s.whenRunning fun s =>
    s.admitBus codePostWrite parsePostWrite TransferFields.writeInRange fun s tag slot c f =>
      s.onSite c fun t => t.admitPosted tag slot f lines

/-- WRITE. -/
def execWrite (lines : BusLines) (s : State) : Answer :=
  s.whenRunning fun s =>
    s.admitBus codeWrite parseWrite TransferFields.writeInRange fun s tag slot c f =>
      s.onSite c fun t =>
        t.append
          { Entry.fresh tag .write slot.toNat t.conn.config with
            address := some f.address
            writeBytes := f.data
            budget := some f.budget.toNat
            retriesUsed := some 0 } lines

/-- READ. -/
def execRead (lines : BusLines) (s : State) : Answer :=
  s.whenRunning fun s =>
    s.admitBus codeRead parseRead TransferFields.readInRange fun s tag slot c f =>
      s.onSite c fun t =>
        t.append
          { Entry.fresh tag .read slot.toNat t.conn.config with
            address := some f.address
            writeBytes := f.data
            readCount := some f.count.toNat
            budget := some f.budget.toNat
            retriesUsed := some 0 } lines

/-- FENCE (R79). -/
def execFence (lines : BusLines) (s : State) : Answer :=
  s.whenRunning fun s =>
    s.admitBus codeFence parseSlot (fun _ => true) fun s tag slot c _ =>
      s.onSite c fun t => t.append (Entry.fresh tag .fence slot.toNat t.conn.config) lines

/-- PULSE_RESET (R80). -/
def execPulseReset (lines : BusLines) (s : State) : Answer :=
  s.whenRunning fun s =>
    s.admitBus codePulseReset parseSlotByte (fun ms => decide (1 ≤ ms.toNat)) fun s tag slot c ms =>
      s.onSite c fun t =>
        t.append { Entry.fresh tag .pulseReset slot.toNat t.conn.config with pulseMs := some ms.toNat } lines

/-- CLEAR_BUS (R80). -/
def execClearBus (lines : BusLines) (s : State) : Answer :=
  s.whenRunning fun s =>
    s.admitBus codeClearBus parseSlot (fun _ => true) fun s tag slot c _ =>
      s.onSite c fun t => t.append (Entry.fresh tag .clearBus slot.toNat t.conn.config) lines

/-- A CANCEL's response (R68). -/
def cancelResponse (tag target : Byte) (status : Status) : Response :=
  { code := codeCancel, tag, status, body := .target target }

/-- The sequencer takes a CANCEL: the entry's end, any drain completion, the OK, then the start decision (R93). -/
def Site.cancel (t : Site) (tag target : Byte) (lines : BusLines) : Site :=
  match t.conn.entryOf target with
  | some e => ((t.withdraw e .cancelled).respond (cancelResponse tag target .ok)).startDecision lines
  | none => t.respond (cancelResponse tag target .notFound)

/-- CANCEL (R67, R68). -/
def execCancel (lines : BusLines) (s : State) : Answer :=
  s.whenRunning fun s =>
    s.admitPart (hasCode codeCancel) parseByte (fun target => decide (target.toNat < 32)) fun s tag target =>
      match s.tagHolder target with
      | some c => s.onSite c fun t => t.cancel tag target lines
      | none => s.respond (cancelResponse tag target .notFound)

end Sys2Proof.Machine
end

