-- ==== Sys2Proof/Machine/DeviceReset.lean ====
section
/-! DEFINITION. DEVICE_RESET_BEGIN and DEVICE_RESET_END. -/

namespace Sys2Proof.Machine

/-- A source from outside the part. -/
def externalSource : ExternalReset → ResetSource
  | .powerOn => .powerOn
  | .pin => .pin

/-- DEVICE_RESET_BEGIN (R178): a reset begins, or the source joins the one in progress (R179). -/
def execDeviceResetBegin (source : ExternalReset) (s : State) : Answer :=
  .next (s.beginReset (externalSource source))

/-- The cause recorded for a reset (R179). -/
def ResetSources.cause (r : ResetSources) : ResetCause :=
  if r.powerOn then .powerOn else if r.pin then .pin else .restart

/-- The default numbering: connectors not strap-disabled, in ascending order (R11). -/
def defaultMap (disabled : ConnSet) : Vector (Option ConnId) 8 :=
  let named := allConns.filter fun c => !disabled.getLsbD c.val
  #v[named[0]?, named[1]?, named[2]?, named[3]?, named[4]?, named[5]?, named[6]?, named[7]?]

/-- A connector after a device reset (R9, R11, R19, R60, R101, R169). Its input levels are the outside's; debounce and
attention measures start at once where a mapped connector's input is asserted (R19; log entry 8). -/
def Connector.afterReset (k : Connector) (disabled : Bool) : Connector :=
  let fresh : Connector :=
    { Connector.initial with
      presAsserted := k.presAsserted
      ocAsserted := k.ocAsserted
      pgAsserted := k.pgAsserted
      attnAsserted := k.attnAsserted }
  if disabled then { fresh with state := .unused } else { fresh.enterMap with state := .empty }

/-- Every block takes its values for after a device reset (R180). -/
def State.afterReset (s : State) (sources : ResetSources) (straps : Straps) : State where
  conns := s.conns.mapFinIdx fun i k _ => k.afterReset (straps.cdis.getLsbD i)
  slotMap := defaultMap straps.cdis
  strapDisabled := straps.cdis
  linkRate := straps.lrate
  admissionQueue := []
  restartPending := false
  out := { responses := [], events := [.started sources.cause], lostEvents := 0, consecutive := 0 }
  link := Link.initial
  control :=
    { replayTimeout := 50, hostLossTimeout := 0, hostLossAction := .hold, resetCause := sources.cause,
      restartGuard := none }
  resetting := none
  ticks := s.ticks
  pending := s.pending

/-- DEVICE_RESET_END (R180). With no reset in progress there is none to end (log entry 3). -/
def execDeviceResetEnd (straps : Straps) (s : State) : Answer :=
  match s.resetting with
  | some sources => .next (s.afterReset sources straps)
  | none => .next s

end Sys2Proof.Machine
end

