-- ==== Sys2Proof/Machine/EngineReports.lean ====
section
/-! DEFINITION. The Bus Engine's reports and the sequencer's timers: BYTE_COMPLETED to PULSE_TIMER_EXPIRY. A report from
an engine that has no such work in hand, and the expiry of a stopped timer, find nothing (log entry 3). -/

namespace Sys2Proof.Machine

/-- The ACTIVE entry, if there is one, is changed in place. -/
def Site.updateActive (t : Site) (f : Entry → Entry) : Site :=
  t.setConn { t.conn with queue := updateFirst (fun e => e.state == .active) f t.conn.queue }

/-- The ACTIVE entry ends; an outcome that finds none ends no entry (R86). -/
def Site.endActive (t : Site) (acked : Entry → Nat) (status : Status) (data : List Byte) : Site :=
  match t.conn.activeEntry with
  | some e => t.endEntry { e with acked := acked e } status data
  | none => t

/-- BYTE_COMPLETED (R78, R109). `value` is the byte received, when the byte is one received. -/
def execByteCompleted (c : ConnId) (value : Byte) (s : State) : Answer :=
  s.whenRunning fun s => s.onSite c fun t =>
    match t.conn.engine with
    | .transferring a =>
      match a.complete value with
      | some a' =>
        (t.setConn { t.conn with engine := .transferring a' }).updateActive fun e => { e with acked := a'.completed }
      | none => t
    | .off | .idle | .pulsing _ | .aborting _ _ | .clearing _ _ | .hung => t

/-- The ACTIVE entry after an ADDRESS_NAK (R82, R83): BACKOFF with budget left, NO_TARGET without. -/
def Site.addressRefused (t : Site) : Site :=
  match t.conn.activeEntry with
  | some e =>
    if e.budgetLeft then
      t.updateActive fun e =>
        { e with
          state := .backoff
          acked := 0
          retriesUsed := e.retriesUsed.map fun used => used + 1
          retryTimer := some t.conn.config.retryIntervalMs }
    else t.endActive (fun _ => 0) .noTarget []
  | none => t

/-- The end of an attempt that leaves the engine IDLE (R82, R110), before the start decision. -/
def Site.attemptEnds (t : Site) (a : Attempt) (outcome : AttemptOutcome) : Site :=
  let idle := t.setConn { t.conn with engine := .idle }
  match outcome with
  | .done => idle.endActive (fun _ => a.completed) .ok a.received
  | .addressNak => idle.addressRefused
  | .dataNak => idle.endActive (fun _ => a.completed) .dataRefused []
  | .stuckAtStart => t

/-- A clear ends (R113), with the start decision that IDLE and HUNG call for (R118). -/
def Site.clearEnds (t : Site) (purpose : ClearPurpose) (success : Bool) (lines : BusLines) : Site :=
  match purpose, success with
  | .requested, true =>
    ((t.setConn { t.conn with engine := .idle }).endActive (fun e => e.acked) .ok []).startDecision lines
  | .requested, false =>
    ((t.setConn { t.conn with engine := .hung }).endActive (fun e => e.acked) .busHung []).startDecision lines
  | .beforeTransfer a false, true => t.setConn { t.conn with engine := .transferring a.begun }
  | .beforeTransfer _ false, false =>
    ((t.setConn { t.conn with engine := .hung }).endActive (fun _ => 0) .busStuck []).startDecision lines
  | .beforeTransfer _ true, true | .afterStretch, true =>
    (t.setConn { t.conn with engine := .idle }).startDecision lines
  | .beforeTransfer _ true, false | .afterStretch, false =>
    (t.setConn { t.conn with engine := .hung }).startDecision lines

/-- ATTEMPT_OUTCOME (R82, R110). STUCK_AT_START is the failure of the clear before a transfer (R106). -/
def execAttemptOutcome (c : ConnId) (outcome : AttemptOutcome) (lines : BusLines) (s : State) : Answer :=
  s.whenRunning fun s => s.onSite c fun t =>
    match t.conn.engine with
    | .transferring a => if a.canEnd outcome then (t.attemptEnds a outcome).startDecision lines else t
    | .clearing (.beforeTransfer a false) b =>
      if outcome = .stuckAtStart ∧ b.stage ≠ .ended true then t.clearEnds (.beforeTransfer a false) false lines else t
    | .clearing (.beforeTransfer _ true) _ | .clearing .requested _ | .clearing .afterStretch _
    | .off | .idle | .pulsing _ | .aborting _ _ | .hung => t

/-- A step about the allocated entry that holds a tag. -/
def State.onEntry (s : State) (tag : Byte) (f : Site → Entry → Site) : State :=
  match s.tagHolder tag with
  | some c => s.onSite c fun t =>
    match t.conn.entryOf tag with
    | some e => f t e
    | none => t
  | none => s

/-- RETRY_INTERVAL_EXPIRY (R84). -/
def execRetryIntervalExpiry (tag : Byte) (lines : BusLines) (s : State) : Answer :=
  s.whenRunning fun s => s.onEntry tag fun t e =>
    if e.retryTimer.isSome ∧ e.state = .backoff then
      (t.updateEntry tag fun e => { e with state := .waiting, retryTimer := none }).startDecision lines
    else t

/-- DEADLINE_EXPIRY (R92). -/
def execDeadlineExpiry (tag : Byte) (lines : BusLines) (s : State) : Answer :=
  s.whenRunning fun s => s.onEntry tag fun t e =>
    if e.deadline.isSome then (t.withdraw e .expired).startDecision lines else t

/-- STRETCH_LIMIT (R105, R111, R113, R115): the clock line, waited for in the line step in progress or in the next that
waits for it, stays low to the limit (log entry 6). It ends an attempt into a clear, ends an abort, or fails a clear;
where the engine's next report comes before any wait, it cannot occur (log entry 3). A failed clear leaves the engine HUNG, where no start decision makes a bus check, so the levels handed on are never read. -/
def execStretchLimit (c : ConnId) (s : State) : Answer :=
  s.whenRunning fun s => s.onSite c fun t =>
    match t.conn.engine with
    | .transferring a =>
      if a.mayStretch then
        (t.setConn { t.conn with engine := .clearing .afterStretch (BusClear.begun a.speed) }).endActive
          (fun _ => a.completed) .busStuck []
      else t
    | .aborting a finishing =>
      if a.abortMayStretch finishing then
        t.setConn { t.conn with engine := .clearing .afterStretch (BusClear.begun a.speed) }
      else t
    | .clearing purpose b => if b.mayStretch then t.clearEnds purpose false ⟨false, false⟩ else t
    | .off | .idle | .pulsing _ | .hung => t

/-- BUS_CLEAR_END (R112, R113). -/
def execBusClearEnd (c : ConnId) (data : List Bool) (after : BusLines) (lines : BusLines) (s : State) : Answer :=
  s.whenRunning fun s => s.onSite c fun t =>
    match t.conn.engine with
    | .clearing purpose b =>
      match b.result data after with
      | some success => t.clearEnds purpose success lines
      | none => t
    | .off | .idle | .transferring _ | .pulsing _ | .aborting _ _ | .hung => t

/-- ABORT_END (R115): the stop is sent, the engine reports IDLE with no outcome. -/
def execAbortEnd (c : ConnId) (lines : BusLines) (s : State) : Answer :=
  s.whenRunning fun s => s.onSite c fun t =>
    match t.conn.engine with
    | .aborting _ _ => (t.setConn { t.conn with engine := .idle }).startDecision lines
    | .off | .idle | .transferring _ | .pulsing _ | .clearing _ _ | .hung => t

/-- PULSE_TIMER_EXPIRY (R85, R117). -/
def execPulseTimerExpiry (c : ConnId) (lines : BusLines) (s : State) : Answer :=
  s.whenRunning fun s => s.onSite c fun t =>
    match t.conn.engine with
    | .pulsing _ =>
      (((t.setConn { t.conn with engine := .idle }).releaseReset).endActive (fun e => e.acked) .ok []).startDecision
        lines
    | .off | .idle | .transferring _ | .aborting _ _ | .clearing _ _ | .hung => t

end Sys2Proof.Machine
end

