-- ==== Sys2Proof/Machine/LinkReceive.lean ====
section
/-! DEFINITION. The steps of the receiver: DATA_FRAME to INTER_BYTE_TIMEOUT (R141, R143, R144). -/

namespace Sys2Proof.Machine

/-- DATA_FRAME (R144, R147, R148). -/
def execDataFrame (raw : List RxByte) (s : State) : Answer :=
  s.whenRunning fun s => s.onFrame raw fun heard frame =>
    match frame with
    | .data number payload =>
      match heard.link.state with
      | .up => heard.receiveData number payload
      | .start | .down => { heard with link := heard.link.unsyncedData }
    | .ack _ | .nak _ _ | .sync => s

/-- ACK_FRAME (R144, R156). -/
def execAckFrame (raw : List RxByte) (s : State) : Answer :=
  s.whenRunning fun s => s.onFrame raw fun heard frame =>
    match frame with
    | .ack n => heard.receiveNumber n fun l => l
    | .data _ _ | .nak _ _ | .sync => s

/-- NAK_GAP (R144, R157): the number, then a resend pass. -/
def execNakGap (raw : List RxByte) (s : State) : Answer :=
  s.whenRunning fun s => s.onFrame raw fun heard frame =>
    match frame with
    | .nak .gap n => heard.receiveNumber n Link.resendPass
    | .nak .hold _ | .nak .unsynced _ | .data _ _ | .ack _ | .sync => s

/-- NAK_HOLD (R144, R158): the number, then the HOLD pause. -/
def execNakHold (raw : List RxByte) (s : State) : Answer :=
  s.whenRunning fun s => s.onFrame raw fun heard frame =>
    match frame with
    | .nak .hold n => heard.receiveNumber n Link.pause
    | .nak .gap _ | .nak .unsynced _ | .data _ _ | .ack _ | .sync => s

/-- NAK_UNSYNCED (R144, R159): DOWN from UP, ignored elsewhere; its number is not examined. -/
def execNakUnsynced (raw : List RxByte) (s : State) : Answer :=
  s.whenRunning fun s => s.onFrame raw fun heard frame =>
    match frame with
    | .nak .unsynced _ => if heard.link.state = .up then heard.enterDown else heard
    | .nak .gap _ | .nak .hold _ | .data _ _ | .ack _ | .sync => s

/-- SYNC (R161), in any link state. -/
def execSync (raw : List RxByte) (s : State) : Answer :=
  s.whenRunning fun s => s.onFrame raw fun heard frame =>
    match frame with
    | .sync => { heard with link := heard.link.synchronise heard.control.replayTimeout }
    | .data _ _ | .ack _ | .nak _ _ => s

/-- A discard: counted, nothing else but frame assembly changes (R143). -/
def Link.discard (l : Link) : Link := { l with rx := .hunting, counters := l.counters.addDiscard }

/-- FRAME_DISCARD (R143), in any link state. -/
def execFrameDiscard (raw : List RxByte) (s : State) : Answer :=
  s.whenRunning fun s => if receivedDiscard s.link.rx raw then { s with link := s.link.discard } else s

/-- INTER_BYTE_TIMEOUT (R141, R143): the bytes taken have left the receiver inside a frame, and 2 ms pass. -/
def execInterByteTimeout (raw : List RxByte) (s : State) : Answer :=
  s.whenRunning fun s => if receivedPartial s.link.rx raw then { s with link := s.link.discard } else s

end Sys2Proof.Machine
end

