-- ==== Sys2Proof/Machine/LinkSend.lean ====
section
/-! DEFINITION. The link's timers, the transmitter, the frame scheduler and the restart guard. -/

namespace Sys2Proof.Machine

/-- One replay-timer expiry below the limit: a pass and a restart of the timer (R160). -/
def Link.replayAgain (l : Link) (replayTimeout : Nat) : Link :=
  { l.resendPass with replayTimer := some replayTimeout }

/-- REPLAY_TIMER_EXPIRY (R160). -/
def execReplayTimerExpiry (s : State) : Answer :=
  s.whenRunning fun s =>
    if s.link.replayTimer.isSome ∧ s.link.state = .up then
      let s := { s with link := { s.link with replayCount := s.link.replayCount + 1 } }
      if s.link.replayCount < Config.replayLimit then
        { s with link := s.link.replayAgain s.control.replayTimeout }
      else s.enterDown
    else s

/-- HOLD_PAUSE_EXPIRY (R158). -/
def execHoldPauseExpiry (s : State) : Answer :=
  s.whenRunning fun s =>
    if s.link.holdPause.isSome then { s with link := { s.link.resendPass with holdPause := none } } else s

/-- UNSYNCED_NAK_SPACING_EXPIRY (R147). -/
def execUnsyncedNakSpacingExpiry (s : State) : Answer :=
  s.whenRunning fun s => { s with link := { s.link with spacing := none } }

/-- POWER_OFF_ALL on one connector (R44): the set gains the connector if it was moved to OFF. -/
def powerOffOne (acc : State × ConnSet) (c : ConnId) : State × ConnSet :=
  if acc.1.conns[c].state.blocksMap then
    (acc.1.onSite c fun t => t.powerOffNow .hostLoss, acc.2 ||| (1#8 <<< c.val))
  else acc

/-- POWER_OFF_ALL: every supervisor in ascending order, with the set of connectors moved to OFF (R44). -/
def State.powerOffAll (s : State) : State × ConnSet := allConns.foldl powerOffOne (s, 0)

/-- The part raises an event that belongs to no connector's blocks. -/
def State.raise (s : State) (e : Event) : State := { s with out := s.out.raise e }

/-- HOST_LOSS_TIMER_EXPIRY (R163): the action, then its event; the timer is not restarted. -/
def execHostLossTimerExpiry (s : State) : Answer :=
  s.whenRunning fun s =>
    if s.link.hostLoss.isSome ∧ s.link.state = .down then
      let s := { s with link := { s.link with hostLoss := none } }
      match s.control.hostLossAction with
      | .hold => s.raise (.hostLoss .hold 0)
      | .powerOffAll =>
        let r := s.powerOffAll
        r.1.raise (.hostLoss .powerOffAll r.2)
    else s

/-- TRANSMIT_NEXT_FRAME (R153): the line is free, the frame before has been sent to its end (log entry 10). -/
def execTransmitNextFrame (s : State) : Answer :=
  s.whenRunning fun s => { s with link := s.link.transmit }

/-- The response is a RESTART's OK (R134, R164). -/
def Response.isRestartOk (r : Response) : Bool := r.code == codeRestart && r.status == .ok

/-- The head of the Response Queue leaves (R133, R134). -/
def Outbound.framedResponse (o : Outbound) : Outbound :=
  { o with responses := o.responses.tail, consecutive := bump Config.consecutiveMax o.consecutive }

/-- The head of the Event Queue leaves; an EVENTS_LOST takes the place freed where events were lost (R131, R133). -/
def Outbound.framedEvent (o : Outbound) : Outbound :=
  if o.lostEvents = 0 then { o with events := o.events.tail, consecutive := 0 }
  else { o with events := o.events.tail ++ [.eventsLost o.lostEvents], lostEvents := 0, consecutive := 0 }

/-- The scheduler's choice (R133): an event when events alone wait, or when both wait after four responses in a row. -/
def Outbound.eventNext (o : Outbound) : Bool :=
  o.responses.isEmpty || (!o.events.isEmpty && o.consecutive == Config.consecutiveMax)

/-- One framing (R132 to R134). -/
def State.frameOne (s : State) : State :=
  if s.link.hasRoom then
    if s.out.eventNext then
      match s.out.events with
      | e :: _ =>
        { s with out := s.out.framedEvent, link := s.link.frameNew e.encode false s.control.replayTimeout }
      | [] => s
    else
      match s.out.responses with
      | r :: _ =>
        { s with
          out := s.out.framedResponse
          link := s.link.frameNew r.encode r.isRestartOk s.control.replayTimeout }
      | [] => s
  else s

/-- FRAME_SCHEDULE (R132, R133, R134). -/
def execFrameSchedule (s : State) : Answer := s.whenRunning State.frameOne

/-- RESTART_GUARD_EXPIRY (R164, R181). -/
def execRestartGuardExpiry (s : State) : Answer :=
  s.whenRunning fun s => if s.control.restartGuard.isSome then s.beginReset .restart else s

end Sys2Proof.Machine
end

