-- ==== Sys2Proof/Machine/PartRequests.lean ====
section
/-! DEFINITION. The requests that name no slot and are answered at once: UNKNOWN_REQUEST to GET_SLOT_MAP. -/

namespace Sys2Proof.Machine

/-- UNKNOWN_REQUEST (R52): a code of no request, or no bytes at all. -/
def execUnknownRequest (s : State) : Answer :=
  s.whenRunning fun s => s.takeMessage isUnknown fun s m =>
    s.refuse m (if m = [] then .badLength else .unknownRequest)

/-- The part status record, gathered while the GET_STATUS holds its own place in admission (R137, R175). -/
def State.partStatus (s : State) : PartStatusRecord where
  linkRate := s.linkRate
  strapDisabled := s.strapDisabled
  resetCause := s.control.resetCause
  poolUsed := s.poolUsed
  placesInUse := s.placesInUse + 1
  eventDepth := s.out.events.length
  lostEvents := s.out.lostEvents
  linkState := s.link.state
  counters := s.link.counters
  replayTimeout := s.control.replayTimeout
  hostLossTimeout := s.control.hostLossTimeout
  hostLossAction := s.control.hostLossAction

/-- GET_STATUS (R175, R176): with the clear flag on, the counters read are set to 0. -/
def execGetStatus (s : State) : Answer :=
  s.whenRunning fun s =>
    s.admitPart (hasCode codeGetStatus) parseByte (fun flag => (flagOf flag).isSome) fun s tag flag =>
      let cleared := if flagOf flag = some true then LinkCounters.zero else s.link.counters
      { s.respond { code := codeGetStatus, tag, status := .ok, body := .partStatus s.partStatus } with
        link := { s.link with counters := cleared } }

/-- SET_LINK (R177): all three parameters at once. -/
def execSetLink (s : State) : Answer :=
  s.whenRunning fun s =>
    s.admitPart (hasCode codeSetLink) parseSetLink SetLinkFields.inRange fun s tag f =>
      match lossActionOf f.action with
      | some action =>
        { s.respond { code := codeSetLink, tag, status := .ok, body := .empty } with
          control :=
            { s.control with
              replayTimeout := f.replayTimeout
              hostLossTimeout := f.hostLossTimeout
              hostLossAction := action } }
      | none => s

/-- RESTART (R69, R181): the flag, the guard, the OK; with the link not UP the reset follows at once (R164). DESIGN CHOICE
(log entry 23): a link that went down and came UP again by a SYNC between the acceptance of the RESTART's frame and its
admission has not left UP, and the RESTART waits. -/
def execRestart (s : State) : Answer :=
  s.whenRunning fun s =>
    s.admitPart (hasCode codeRestart) parseBare (fun _ => true) fun s tag _ =>
      let s :=
        { s.respond { code := codeRestart, tag, status := .ok, body := .empty } with
          restartPending := true
          control := { s.control with restartGuard := some Config.restartGuardMs } }
      if s.link.state = .up then s else s.beginReset .restart

/-! ### The Slot Map -/

/-- The connectors a table names. -/
def namedIn (table : Vector (Option ConnId) 8) : List ConnId := table.toList.filterMap id

/-- A connector is affected by a new table (R14). -/
def State.affected (s : State) (table : Vector (Option ConnId) 8) (c : ConnId) : Bool :=
  s.slotOf c != slotIn table c

/-- The Slot Map's own checks (R14). -/
def State.mapRefusal (s : State) (table : Vector (Option ConnId) 8) : Option Status :=
  if ¬(namedIn table).Nodup ∨ (namedIn table).any (fun c => s.strapDisabled.getLsbD c.val) then some .badParam
  else if allConns.any (fun c => s.affected table c && s.conns[c].state.blocksMap) then some .mapConflict
  else none

/-- The consequence of a new table for one connector (R15); the table stands already, `old` is the one before. -/
def remapOne (old : Vector (Option ConnId) 8) (s : State) (c : ConnId) : State :=
  let before := slotIn old c
  let after := s.slotOf c
  if before ≠ 0 ∧ after = 0 then s.onSite c fun t => Site.unmap { t with slot := before }
  else if before = 0 ∧ after ≠ 0 then s.onSite c Site.map
  else s

/-- The table is replaced and the connectors follow in ascending order (R15). -/
def State.remap (s : State) (table : Vector (Option ConnId) 8) : State :=
  allConns.foldl (remapOne s.slotMap) { s with slotMap := table }

/-- SET_SLOT_MAP (R14, R15). -/
def execSetSlotMap (s : State) : Answer :=
  s.whenRunning fun s =>
    s.admitPart (hasCode codeSetSlotMap) parseSetSlotMap (fun entries => (tableOf entries).isSome) fun s tag entries =>
      match tableOf entries with
      | some table =>
        match s.mapRefusal table with
        | some status => s.respond { code := codeSetSlotMap, tag, status, body := .empty }
        | none => (s.remap table).respond { code := codeSetSlotMap, tag, status := .ok, body := .empty }
      | none => s

/-- GET_SLOT_MAP (R17). -/
def execGetSlotMap (s : State) : Answer :=
  s.whenRunning fun s =>
    s.admitPart (hasCode codeGetSlotMap) parseBare (fun _ => true) fun s tag _ =>
      s.respond { code := codeGetSlotMap, tag, status := .ok, body := .slotMap s.slotMap s.strapDisabled }

end Sys2Proof.Machine
end

