-- ==== Sys2Proof/Machine/SlotRequests.lean ====
section
/-! DEFINITION. The requests about one connector that are answered at once: SLOT_CONFIGURE to ATTENTION_ARM. -/

namespace Sys2Proof.Machine

/-- SLOT_CONFIGURE (R170): the whole record is replaced; no timer, entry or state is touched. -/
def execSlotConfigure (s : State) : Answer :=
  s.whenRunning fun s =>
    s.admitSlot (hasCode codeSlotConfigure) parseConfigure (fun bytes => (SlotConfig.decode bytes).isSome)
      fun s tag slot c bytes =>
        match SlotConfig.decode bytes with
        | some config =>
          s.onSite c fun t =>
            (t.setConn { t.conn with config }).respond
              { code := codeSlotConfigure, tag, status := .ok, body := .place c slot.toNat }
        | none => s

/-- The slot status record (R173). -/
def Connector.status (k : Connector) (c : ConnId) (slot : Nat) : SlotStatusRecord where
  conn := c
  slot := slot
  state := k.state
  faultCounter := k.faultCounter
  presAsserted := k.presAsserted
  pgAsserted := k.pgAsserted
  ocAsserted := k.ocAsserted
  attnAsserted := k.attnAsserted
  armed := k.armed
  engine := k.engine.state
  held := k.queue.length
  waiting := k.countIn .waiting
  active := k.countIn .active
  backoff := k.countIn .backoff
  nextPosting := k.postingCounter
  config := k.config

/-- SLOT_STATUS (R173). -/
def execSlotStatus (s : State) : Answer :=
  s.whenRunning fun s =>
    s.admitSlot (hasCode codeSlotStatus) parseSlot (fun _ => true) fun s tag slot c _ =>
      s.onSite c fun t =>
        t.respond
          { code := codeSlotStatus, tag, status := .ok, body := .slotStatus (t.conn.status c slot.toNat) }

/-- SLOT_POWER_ON (R38, R43). -/
def execSlotPowerOn (lines : BusLines) (s : State) : Answer :=
  s.whenRunning fun s =>
    s.admitSlot (hasCode codeSlotPowerOn) parseSlot (fun _ => true) fun s tag slot c _ =>
      s.onSite c fun t => (t.powerOn lines).answerPower codeSlotPowerOn tag slot t.conn.state.powerOnStatus

/-- SLOT_POWER_OFF in mode ABORT (R39, R43). A SLOT_POWER_OFF whose mode cannot be read is refused by either row. -/
def execSlotPowerOffAbort (s : State) : Answer :=
  s.whenRunning fun s =>
    s.admitSlot (fun m => hasCode codeSlotPowerOff m && powerOffMode m != some true) parseSlotByte
      (fun mode => (flagOf mode).isSome) fun s tag slot c _ =>
        s.onSite c fun t => (t.powerOffNow .hostOff).answerPower codeSlotPowerOff tag slot .ok

/-- SLOT_POWER_OFF in mode DRAIN (R40, R43). -/
def execSlotPowerOffDrain (s : State) : Answer :=
  s.whenRunning fun s =>
    s.admitSlot (fun m => hasCode codeSlotPowerOff m && powerOffMode m != some false) parseSlotByte
      (fun mode => (flagOf mode).isSome) fun s tag slot c _ =>
        s.onSite c fun t => t.powerOffDrain.answerPower codeSlotPowerOff tag slot .ok

/-- SLOT_CLEAR_FAULT (R42, R43). -/
def execSlotClearFault (s : State) : Answer :=
  s.whenRunning fun s =>
    s.admitSlot (hasCode codeSlotClearFault) parseSlot (fun _ => true) fun s tag slot c _ =>
      s.onSite c fun t => t.clearFault.answerPower codeSlotClearFault tag slot .ok

/-- ATTENTION_ARM (R46): the flag, the event if the input is steady in ON or DRAINING, then the OK. -/
def execAttentionArm (s : State) : Answer :=
  s.whenRunning fun s =>
    s.admitSlot (hasCode codeAttentionArm) parseSlot (fun _ => true) fun s tag slot c _ =>
      s.onSite c fun t =>
        ((t.setConn { t.conn with armed := true }).attentionCheck).respond
          { code := codeAttentionArm, tag, status := .ok, body := .place c slot.toNat }

end Sys2Proof.Machine
end

