-- ==== Sys2Proof/Machine/Supervision.lean ====
section
/-! DEFINITION. The connector inputs and the supervisor's timers: PRESENCE_INPUT_CHANGE to ATTENTION_STEADY. An
UNUSED connector's inputs reach no block (R1); their raw levels are recorded all the same (log entry 11). -/

namespace Sys2Proof.Machine

/-- The connector is in the map: its supervisor follows its inputs (R1, R10). -/
def Connector.isMapped (k : Connector) : Bool := k.state != .unused

/-- PRESENCE_INPUT_CHANGE (R25): the debounce timer starts, restarts or stops. -/
def Site.presenceInput (t : Site) (asserted : Bool) : Site :=
  let k := { t.conn with presAsserted := asserted }
  t.setConn (if k.isMapped then { k with debounce := k.debounceTimer } else k)

/-- ATTN_INPUT_CHANGE (R45): an assertion starts the 1 ms measure, a deassertion ends the input's steadiness. A level
that stays as it was is no change (log entry 7). -/
def Site.attnInput (t : Site) (asserted : Bool) : Site :=
  let k := { t.conn with attnAsserted := asserted }
  t.setConn
    (if k.isMapped ∧ asserted ≠ t.conn.attnAsserted then
      { k with steady := false, attnTimer := if asserted then some Config.attentionMs else none }
    else k)

/-- OC_INPUT_CHANGE (R31, R32). -/
def Site.ocInput (t : Site) (asserted : Bool) : Site :=
  (t.setConn { t.conn with ocAsserted := asserted }).reviewFault t.conn.faultCondition

/-- PG_INPUT_CHANGE: the way to ON from POWERING (R29), a form of the fault condition in ON and DRAINING (R32), no
effect elsewhere (R4). -/
def Site.pgInput (t : Site) (asserted : Bool) (lines : BusLines) : Site :=
  let seen := t.setConn { t.conn with pgAsserted := asserted }
  if t.conn.state = .powering then (if asserted then seen.powerGood lines else seen)
  else seen.reviewFault t.conn.faultCondition

/-- An input change during a device reset is recorded and reaches no block (R7, R178; log entry 11). -/
def State.inputChange (s : State) (c : ConnId) (level : Connector → Connector) (f : Site → Site) : Answer :=
  .next (if s.resetting.isNone then s.onSite c f else s.onSite c fun t => t.setConn (level t.conn))

/-- PRESENCE_INPUT_CHANGE (R3, R25). -/
def execPresenceInputChange (c : ConnId) (asserted : Bool) (s : State) : Answer :=
  s.inputChange c (fun k => { k with presAsserted := asserted }) fun t => t.presenceInput asserted

/-- PRESENCE_DEBOUNCE_EXPIRY (R25): an insertion in EMPTY, a removal elsewhere (R26, R27). -/
def execPresenceDebounceExpiry (c : ConnId) (lines : BusLines) (s : State) : Answer :=
  s.whenRunning fun s => s.onSite c fun t =>
    if t.conn.debounce.isSome ∧ t.conn.isMapped then
      let t := t.setConn { t.conn with debounce := none }
      if t.conn.state = .empty then t.insertion lines else t.removal
    else t

/-- OC_INPUT_CHANGE (R4, R32). -/
def execOcInputChange (c : ConnId) (asserted : Bool) (s : State) : Answer :=
  s.inputChange c (fun k => { k with ocAsserted := asserted }) fun t => t.ocInput asserted

/-- PG_INPUT_CHANGE (R4, R29, R32). -/
def execPgInputChange (c : ConnId) (asserted : Bool) (lines : BusLines) (s : State) : Answer :=
  s.inputChange c (fun k => { k with pgAsserted := asserted }) fun t => t.pgInput asserted lines

/-- INRUSH_TIMER_EXPIRY (R31): an OC_N asserted then makes a fault condition appear. -/
def execInrushTimerExpiry (c : ConnId) (s : State) : Answer :=
  s.whenRunning fun s => s.onSite c fun t =>
    if t.conn.inrush.isSome then (t.setConn { t.conn with inrush := none }).reviewFault t.conn.faultCondition else t

/-- QUALIFY_TIMER_EXPIRY (R32): the fault is qualified. -/
def execQualifyTimerExpiry (c : ConnId) (s : State) : Answer :=
  s.whenRunning fun s => s.onSite c fun t =>
    if t.conn.qualify.isSome then (t.setConn { t.conn with qualify := none }).takeFault t.conn.faultCause else t

/-- PG_DEADLINE_EXPIRY (R30): a qualified fault, whatever the level of PG. -/
def execPgDeadlineExpiry (c : ConnId) (s : State) : Answer :=
  s.whenRunning fun s => s.onSite c fun t =>
    if t.conn.pgDeadline.isSome ∧ t.conn.state = .powering then t.takeFault .pgTimeout else t

/-- RETRY_DELAY_EXPIRY (R36). -/
def execRetryDelayExpiry (c : ConnId) (lines : BusLines) (s : State) : Answer :=
  s.whenRunning fun s => s.onSite c fun t =>
    if t.conn.cooldown.isSome ∧ t.conn.state = .cooldown then t.powerUp .retry lines else t

/-- RECURRENCE_WINDOW_EXPIRY (R37): the counter returns to 0 and no event is raised. -/
def execRecurrenceWindowExpiry (c : ConnId) (s : State) : Answer :=
  s.whenRunning fun s => s.onSite c fun t =>
    if t.conn.cooldown.isSome ∧ t.conn.state.usable then
      t.setConn { t.conn with cooldown := none, faultCounter := 0 }
    else t

/-- ATTN_INPUT_CHANGE (R5, R45). -/
def execAttnInputChange (c : ConnId) (asserted : Bool) (s : State) : Answer :=
  s.inputChange c (fun k => { k with attnAsserted := asserted }) fun t => t.attnInput asserted

/-- ATTENTION_STEADY (R45). -/
def execAttentionSteady (c : ConnId) (s : State) : Answer :=
  s.whenRunning fun s => s.onSite c fun t =>
    if t.conn.attnTimer.isSome then
      (t.setConn { t.conn with attnTimer := none, steady := true }).attentionCheck
    else t

end Sys2Proof.Machine
end

