-- ==== Sys2Proof/Machine/Dispatch.lean ====
section
/-! DEFINITION. One command: its meaning, one arm for each row of the table. -/

namespace Sys2Proof.Machine

def exec (i : Instr) (s : State) : Host.Outcome State Fault Refusal :=
  match i with
  | .deviceResetBegin source => Sys2Proof.Machine.execDeviceResetBegin source s
  | .deviceResetEnd straps => Sys2Proof.Machine.execDeviceResetEnd straps s
  | .presenceInputChange c asserted => Sys2Proof.Machine.execPresenceInputChange c asserted s
  | .presenceDebounceExpiry c lines => Sys2Proof.Machine.execPresenceDebounceExpiry c lines s
  | .ocInputChange c asserted => Sys2Proof.Machine.execOcInputChange c asserted s
  | .pgInputChange c asserted lines => Sys2Proof.Machine.execPgInputChange c asserted lines s
  | .inrushTimerExpiry c => Sys2Proof.Machine.execInrushTimerExpiry c s
  | .qualifyTimerExpiry c => Sys2Proof.Machine.execQualifyTimerExpiry c s
  | .pgDeadlineExpiry c => Sys2Proof.Machine.execPgDeadlineExpiry c s
  | .retryDelayExpiry c lines => Sys2Proof.Machine.execRetryDelayExpiry c lines s
  | .recurrenceWindowExpiry c => Sys2Proof.Machine.execRecurrenceWindowExpiry c s
  | .attnInputChange c asserted => Sys2Proof.Machine.execAttnInputChange c asserted s
  | .attentionSteady c => Sys2Proof.Machine.execAttentionSteady c s
  | .dataFrame raw => Sys2Proof.Machine.execDataFrame raw s
  | .ackFrame raw => Sys2Proof.Machine.execAckFrame raw s
  | .nakGap raw => Sys2Proof.Machine.execNakGap raw s
  | .nakHold raw => Sys2Proof.Machine.execNakHold raw s
  | .nakUnsynced raw => Sys2Proof.Machine.execNakUnsynced raw s
  | .sync raw => Sys2Proof.Machine.execSync raw s
  | .frameDiscard raw => Sys2Proof.Machine.execFrameDiscard raw s
  | .interByteTimeout raw => Sys2Proof.Machine.execInterByteTimeout raw s
  | .replayTimerExpiry => Sys2Proof.Machine.execReplayTimerExpiry s
  | .holdPauseExpiry => Sys2Proof.Machine.execHoldPauseExpiry s
  | .unsyncedNakSpacingExpiry => Sys2Proof.Machine.execUnsyncedNakSpacingExpiry s
  | .hostLossTimerExpiry => Sys2Proof.Machine.execHostLossTimerExpiry s
  | .transmitNextFrame => Sys2Proof.Machine.execTransmitNextFrame s
  | .frameSchedule => Sys2Proof.Machine.execFrameSchedule s
  | .restartGuardExpiry => Sys2Proof.Machine.execRestartGuardExpiry s
  | .unknownRequest => Sys2Proof.Machine.execUnknownRequest s
  | .getStatus => Sys2Proof.Machine.execGetStatus s
  | .setLink => Sys2Proof.Machine.execSetLink s
  | .restart => Sys2Proof.Machine.execRestart s
  | .setSlotMap => Sys2Proof.Machine.execSetSlotMap s
  | .getSlotMap => Sys2Proof.Machine.execGetSlotMap s
  | .slotConfigure => Sys2Proof.Machine.execSlotConfigure s
  | .slotStatus => Sys2Proof.Machine.execSlotStatus s
  | .slotPowerOn lines => Sys2Proof.Machine.execSlotPowerOn lines s
  | .slotPowerOffAbort => Sys2Proof.Machine.execSlotPowerOffAbort s
  | .slotPowerOffDrain => Sys2Proof.Machine.execSlotPowerOffDrain s
  | .slotClearFault => Sys2Proof.Machine.execSlotClearFault s
  | .attentionArm => Sys2Proof.Machine.execAttentionArm s
  | .postWrite lines => Sys2Proof.Machine.execPostWrite lines s
  | .write lines => Sys2Proof.Machine.execWrite lines s
  | .read lines => Sys2Proof.Machine.execRead lines s
  | .fence lines => Sys2Proof.Machine.execFence lines s
  | .pulseReset lines => Sys2Proof.Machine.execPulseReset lines s
  | .clearBus lines => Sys2Proof.Machine.execClearBus lines s
  | .cancel lines => Sys2Proof.Machine.execCancel lines s
  | .byteCompleted c value => Sys2Proof.Machine.execByteCompleted c value s
  | .attemptOutcome c outcome lines => Sys2Proof.Machine.execAttemptOutcome c outcome lines s
  | .retryIntervalExpiry tag lines => Sys2Proof.Machine.execRetryIntervalExpiry tag lines s
  | .deadlineExpiry tag lines => Sys2Proof.Machine.execDeadlineExpiry tag lines s
  | .stretchLimit c => Sys2Proof.Machine.execStretchLimit c s
  | .busClearEnd c data after lines => Sys2Proof.Machine.execBusClearEnd c data after lines s
  | .abortEnd c lines => Sys2Proof.Machine.execAbortEnd c lines s
  | .pulseTimerExpiry c lines => Sys2Proof.Machine.execPulseTimerExpiry c lines s

end Sys2Proof.Machine
end

