-- ==== Sys2Proof/Safety.lean ====
section
/-! DEFINITION. The terms the statements use: the invariants the manual gives the part, and what a command leaves
behind, said from the rules rather than from the machine's operations. -/

namespace Sys2Proof.Machine

/-! ### Outbound Unit -/

/-- The Event Queue holds at most 32 events, of which at most one SLOT_STATE and at most one ATTENTION for each
connector; the two counts of the unit stay in their ranges (R119, R123, R130, R133). -/
abbrev Outbound.Bounded (o : Outbound) : Prop :=
  o.events.length ≤ 32 ∧ o.lostEvents ≤ 255 ∧ o.consecutive ≤ 4 ∧
    ∀ c : ConnId, o.events.countP (Event.isStateOf c) ≤ 1 ∧ o.events.countP (Event.isAttentionOf c) ≤ 1

/-! ### Request Pool, Slot Queues -/

/-- The tags of all allocated entries. -/
def State.tags (s : State) : List Byte := s.conns.toList.flatMap fun k => k.queue.map fun e => e.tag

/-- No two allocated entries share a tag, and every tag lies in 0..31 (R53, R58). -/
abbrev State.TagsDistinct (s : State) : Prop := s.tags.Nodup ∧ ∀ tag ∈ s.tags, tag.toNat < 32

/-- At most 16 entries for a connector and 48 in all; every configuration record in range (R56, R57, R169). -/
abbrev State.PoolBounded (s : State) : Prop :=
  s.poolUsed ≤ 48 ∧ ∀ c : ConnId, s.conns[c].queue.length ≤ 16 ∧ s.conns[c].config.inRange = true

/-- An entry that has started (ACTIVE or BACKOFF) did so in the order of R76: a tracked one stands at the head, a posted
one has no older posted entry. -/
abbrev Connector.StartedInOrder (k : Connector) : Prop :=
  ∀ i (h : i < k.queue.length), k.queue[i].state ≠ .waiting →
    if k.queue[i].posted then (k.queue.take i).all (fun e => !e.posted) = true else i = 0

/-- The entry is the one a transfer attempt was made from, with its progress (R78, R103). -/
def Entry.runs (e : Entry) (a : Attempt) : Bool :=
  (e.kind == .postWrite || e.kind == .write || e.kind == .read) && a.address == e.address.getD 0 &&
    a.writeBytes == e.writeBytes && a.readCount == e.readCount && a.completed == e.acked

/-- The work an engine has in hand and the ACTIVE entry agree (R75, R78, R80, R86, R116). -/
def Connector.workAgrees (k : Connector) : Bool :=
  match k.engine with
  | .off | .idle | .hung | .aborting _ _ => k.activeEntry.isNone
  | .clearing .afterStretch _ => k.activeEntry.isNone
  | .clearing (.beforeTransfer _ true) _ => k.activeEntry.isNone
  | .clearing (.beforeTransfer a false) _ => k.activeEntry.any fun e => e.runs a && a.completed == 0
  | .clearing .requested _ => k.activeEntry.all fun e => e.kind == .clearBus
  | .transferring a => k.activeEntry.any fun e => e.runs a
  | .pulsing ms => k.activeEntry.any fun e => e.kind == .pulseReset && ms == e.pulseMs.getD 0

/-- The phase an attempt has reached agrees with the bytes completed (R101, R107, R108). A byte received counts from its
eighth bit on, before its acknowledge period. -/
def Attempt.phaseAgrees (a : Attempt) : Bool :=
  match a.phase with
  | .busCheck | .start | .writeAddress => a.completed == 0
  | .writeBytes => decide (a.completed < a.writeBytes.length)
  | .repeatedStart | .readAddress => a.readCount.isSome && a.completed == a.writeBytes.length
  | .readBytes =>
    a.readCount.isSome &&
      (if a.lineStep < 24 then decide (a.writeBytes.length ≤ a.completed ∧ a.completed < a.total)
      else decide (a.writeBytes.length < a.completed ∧ a.completed ≤ a.total))
  | .stop =>
    match a.refused with
    | none => a.completed == a.total
    | some .address => a.completed == 0 || a.readCount.isSome && a.completed == a.writeBytes.length
    | some .data => decide (a.completed < a.writeBytes.length)

/-- What the data line has read in the element in progress (R104): a bit of a byte received for each clock period passed,
eight of them when its report is due, the acknowledgement of a byte of data whose report is due, else nothing. A byte
has been refused only in a stop. -/
def Attempt.samplesAgree (a : Attempt) : Bool :=
  (match a.phase with
    | .readBytes =>
      if 24 ≤ a.lineStep then a.sampled.isEmpty
      else a.sampled.length == a.lineStep / 3 || a.lineStep == 23 && a.sampled.length == 8
    | .writeBytes => a.sampled.isEmpty || a.lineStep == 26 && a.sampled == [false]
    | .busCheck | .start | .writeAddress | .repeatedStart | .readAddress | .stop => a.sampled.isEmpty) &&
    (a.refused.isNone || a.phase == .stop)

/-- The line steps of the element a phase goes through (R104). -/
def TransferPhase.length : TransferPhase → Nat
  | .busCheck => 1
  | .start => 2
  | .repeatedStart => 4
  | .stop => 3
  | .writeAddress | .writeBytes | .readAddress | .readBytes => 27

/-- The pulse count of a clear by its stage, and the line step within it (R112): none before the first pulse, fewer than
nine where another is made, nine where the clear failed for want of a high data line. -/
def BusClear.inPlace (b : BusClear) : Bool :=
  decide (b.lineStep < b.stage.steps.length) &&
    match b.stage with
    | .release => b.pulses == 0
    | .pulse => decide (b.pulses < 9)
    | .stop | .ended _ => decide (b.pulses ≤ 9)

/-- The transfer progress and the clear an engine holds (R101): an attempt waits for its clear at the bus check and is
past it otherwise, a line step lies within its element, and the readings are those the line steps have taken. -/
def Engine.inPlace : Engine → Bool
  | .off | .idle | .pulsing _ | .hung => true
  | .transferring a =>
    a.phaseAgrees && a.samplesAgree && a.phase != .busCheck && decide (a.lineStep < a.phase.length)
  | .aborting a finishing => decide (a.lineStep < finishing.steps.length)
  | .clearing purpose b =>
    b.inPlace &&
      match purpose with
      | .requested | .afterStretch => true
      | .beforeTransfer a _ => a.phase == .busCheck && a.completed == 0 && a.samplesAgree

/-- An engine after ticks with given readings of its lines (R104, R105). -/
def Engine.run (e : Engine) (readings : List BusLines) : Engine := readings.foldl (fun e r => e.tick (some r)) e

/-- At most one entry of a connector is ACTIVE, only while the connector is ON or DRAINING, and it is the one whose work
the engine has in hand, with the progress that work can have (R75, R101). -/
abbrev Connector.OneActive (k : Connector) : Prop :=
  k.countIn .active ≤ 1 ∧ (k.activeEntry.isSome = true → k.state.usable = true) ∧ k.workAgrees = true ∧
    k.engine.inPlace = true

/-! ### Supervisor -/

/-- PEN is asserted exactly in POWERING, ON and DRAINING; MRST_N everywhere but in ON and DRAINING outside a pulse; the
engine is OFF outside ON and DRAINING; entries are held only while power is on, and a DRAINING connector holds one
(R20, R21, R23, R24, R41, R73). -/
abbrev Connector.PowerAgrees (k : Connector) : Prop :=
  k.pen = k.state.powered ∧ k.mrst = (!k.state.usable || k.engine.isPulsing) ∧
    (k.engine = .off ↔ k.state.usable = false) ∧ (k.queue ≠ [] → k.state.powered = true) ∧
    (k.state = .draining → k.queue ≠ [])

/-- The outputs of a connector while a device reset is in progress (R2, R5, R6, R178). -/
abbrev Connector.HeldInReset (k : Connector) : Prop :=
  k.pen = false ∧ k.mrst = true ∧ k.engine = .off ∧ k.queue = []

/-- The outputs and the states agree, or a device reset holds the outputs. -/
abbrev State.PowerAgrees (s : State) : Prop :=
  ∀ c : ConnId, if s.resetting.isSome then s.conns[c].HeldInReset else s.conns[c].PowerAgrees

/-- The fault counter is 1 only in COOLDOWN, POWERING, ON, DRAINING and FAULTED (R35). -/
abbrev Connector.CounterPlaced (k : Connector) : Prop :=
  k.faultCounter = 1 →
    k.state = .cooldown ∨ k.state = .powering ∨ k.state = .on ∨ k.state = .draining ∨ k.state = .faulted

/-- The cooldown/recurrence timer runs exactly in COOLDOWN, where the counter is 1, and in ON and DRAINING while the
counter is 1 (R33, R35). -/
abbrev Connector.WindowAgrees (k : Connector) : Prop :=
  (k.state = .cooldown → k.faultCounter = 1) ∧
    (k.cooldown.isSome = true ↔ k.state = .cooldown ∨ (k.state.usable = true ∧ k.faultCounter = 1))

/-- The fault counter keeps to R35. -/
abbrev State.CountersAgree (s : State) : Prop :=
  ∀ c : ConnId, s.conns[c].CounterPlaced ∧ (s.resetting = none → s.conns[c].WindowAgrees)

/-- The supervisor's other timers run exactly when their conditions hold: qualification while there is a fault
condition, the PG deadline in POWERING, the inrush window only with power on, debounce while the raw level differs, the
attention measure until an asserted input is steady; and no armed connector in ON or DRAINING has a steady input
(R25, R28 to R32, R45). -/
abbrev Connector.TimersAgree (k : Connector) : Prop :=
  (k.qualify.isSome = k.faultCondition) ∧ (k.pgDeadline.isSome = true ↔ k.state = .powering) ∧
    (k.inrush.isSome = true → k.state.powered = true) ∧
    (k.debounce.isSome = (k.state != .unused && k.presAsserted != k.state.present)) ∧
    ((k.attnTimer.isSome || k.steady) = (k.state != .unused && k.attnAsserted)) ∧
    ((k.attnTimer.isSome && k.steady) = false) ∧ ((k.armed && k.steady && k.state.usable) = false)

/-- The timers agree on every connector while no device reset is in progress. -/
abbrev State.TimersAgree (s : State) : Prop := s.resetting = none → ∀ c : ConnId, s.conns[c].TimersAgree

/-! ### Slot Map -/

/-- No two slots lead to one connector, none to a strap-disabled one, and the UNUSED connectors are exactly those that no
slot names (R10). -/
abbrev State.MapAgrees (s : State) : Prop :=
  (namedIn s.slotMap).Nodup ∧ (∀ c ∈ namedIn s.slotMap, s.strapDisabled.getLsbD c.val = false) ∧
    ∀ c : ConnId, (s.conns[c].state = .unused ↔ c ∉ namedIn s.slotMap)

/-- The slot recorded in an entry is the slot its connector holds (R12). -/
abbrev State.EntrySlotsStand (s : State) : Prop :=
  ∀ c : ConnId, ∀ e ∈ s.conns[c].queue, e.slot = s.slotOf c

/-! ### Link -/

/-- At most 8 frames, whose numbers are consecutive modulo 64 and end just before T (R154). -/
abbrev Link.WindowAgrees (l : Link) : Prop :=
  l.replay.length ≤ 8 ∧
    ∀ i (h : i < l.replay.length), l.replay[i].number + BitVec.ofNat 6 (l.replay.length - i) = l.next

/-- What runs and waits in each link state: the replay timer exactly in UP with frames held, the replay count below its
limit in UP, the HOLD pause only in UP, the host-loss timer only in DOWN, the NAK spacing only outside UP, an owed ACK
and NAK(GAP) and NAK(HOLD) only in UP, at most one NAK of each cause (R139, R146, R147, R151, R158, R160, R161, R163). -/
abbrev Link.Tidy (l : Link) : Prop :=
  (l.replayTimer.isSome = true ↔ l.state = .up ∧ l.replay ≠ []) ∧ l.replayCount ≤ 4 ∧
    (l.state = .up → l.replayCount < 4) ∧ (l.holdPause.isSome = true → l.state = .up) ∧
    (l.hostLoss.isSome = true → l.state = .down) ∧ (l.spacing.isSome = true → l.state ≠ .up) ∧
    (l.ackPending = true → l.state = .up) ∧ (l.gapNakSent = true → l.state = .up) ∧ l.naks.Nodup ∧
    (∀ cause ∈ l.naks, cause = .unsynced ↔ l.state ≠ .up)

/-! ### A pending RESTART -/

/-- Places where a RESTART's OK waits to be acknowledged: the Response Queue and the replay buffer. -/
def State.restartOks (s : State) : Nat :=
  s.out.responses.countP Response.isRestartOk + s.link.replay.countP fun f => f.restartOk

/-- A RESTART is pending exactly while its guard runs; the link is then UP and its OK waits in exactly one place; without
one, no OK waits (R69, R164, R181). -/
abbrev State.RestartAgrees (s : State) : Prop :=
  s.restartPending = s.control.restartGuard.isSome ∧ (s.restartPending = true → s.link.state = .up) ∧
    s.restartOks = (if s.restartPending then 1 else 0)

/-! ### What a command leaves -/

/-- The state with one connector replaced. -/
def State.withConn (s : State) (c : ConnId) (k : Connector) : State := { s with conns := s.conns.set c k }

/-- The state with the Outbound Unit replaced. -/
def State.withOut (s : State) (o : Outbound) : State := { s with out := o }

/-- The state with the Link Interface replaced. -/
def State.withLink (s : State) (l : Link) : State := { s with link := l }

/-- The SLOT_STATE event of one transition of a connector (R47, R124): `counter` is the fault counter after it. -/
def State.moveEvent (s : State) (c : ConnId) (dest : ConnState) (cause : Cause) (counter : Fin 2) : Event :=
  .slotState
    { conn := c, slot := s.slotOf c, fromState := s.conns[c].state, toState := dest, cause, faultCounter := counter,
      transitions := 1 }

/-- A connector in a state without power: the four power timers stopped (R18). -/
def Connector.settled (k : Connector) (dest : ConnState) (counter : Fin 2) : Connector :=
  { k with
    state := dest, faultCounter := counter, inrush := none, qualify := none, pgDeadline := none, cooldown := none }

/-- A connector after a power cut (R22). -/
def Connector.cut (k : Connector) (dest : ConnState) (counter : Fin 2) : Connector :=
  { k.settled dest counter with pen := false, mrst := true, engine := .off, queue := [] }

/-- The Outbound Unit after the end of one entry is reported: a final response for a tracked entry, a POSTED_FAILED for a
posted one that did not end OK (R88, R89). -/
def Outbound.afterEnd (o : Outbound) (c : ConnId) (e : Entry) (status : Status) (data : List Byte) : Outbound :=
  if e.posted = false then o.respond (e.finalResponse c status data)
  else if status = .ok then o
  else o.raise (.postedFailed c e.slot (e.postingNumber.getD 0) status e.acked)

/-- The Outbound Unit after a sweep of the connector, oldest entry first (R95). -/
def Connector.sweepInto (k : Connector) (c : ConnId) (status : Status) (o : Outbound) : Outbound :=
  k.queue.foldl (fun o e => o.afterEnd c e status []) o

/-- A transition of an unpowered connector into another state without power (R22, R47). -/
def State.moved (s : State) (c : ConnId) (dest : ConnState) (cause : Cause) (counter : Fin 2) : State :=
  (s.withConn c (s.conns[c].settled dest counter)).withOut (s.out.raise (s.moveEvent c dest cause counter))

/-- A power cut with its sweep, then the transition and its event (R22, R23, R47). -/
def State.cutTo (s : State) (c : ConnId) (status : Status) (dest : ConnState) (cause : Cause) (counter : Fin 2) :
    State :=
  (s.withConn c (s.conns[c].cut dest counter)).withOut
    ((s.conns[c].sweepInto c status s.out).raise (s.moveEvent c dest cause counter))

/-- A fault taken: COOLDOWN with the retry delay running after a first fault with auto_retry on, FAULTED otherwise, OFF
out of DRAINING (R33, R34). -/
def State.afterFault (s : State) (c : ConnId) (cause : Cause) : State :=
  let k := s.conns[c]
  if k.state = .draining then s.cutTo c .slotFault .off cause 0
  else if k.config.autoRetry = true ∧ k.faultCounter = 0 then
    (s.cutTo c .slotFault .cooldown cause 1).withConn c
      { k.cut .cooldown 1 with cooldown := some (10 * k.config.retryDelay) }
  else s.cutTo c .slotFault .faulted cause k.faultCounter

/-- The power-up of a connector begins, with PG deasserted (R28). -/
def State.poweredUp (s : State) (c : ConnId) (cause : Cause) : State :=
  let k := s.conns[c]
  (s.withConn c
    { k with
      state := .powering, pen := true, mrst := true, inrush := some k.config.inrushMs,
      pgDeadline := some k.config.pgDeadlineMs, cooldown := none }).withOut
    (s.out.raise (s.moveEvent c .powering cause k.faultCounter))

/-- An ATTENTION that is due is raised, and the armed flag cleared (R45). -/
def State.attended (s : State) (c : ConnId) : State :=
  let k := s.conns[c]
  if k.state.usable = true ∧ k.armed = true ∧ k.steady = true then
    (s.withConn c { k with armed := false }).withOut (s.out.raise (.attention c (s.slotOf c)))
  else s

/-- The part after a start decision on a connector; `StartChoosesOldestEligible` says what it does (R77). -/
def State.started (s : State) (c : ConnId) (lines : BusLines) : State :=
  s.onSite c fun t => t.startDecision lines

/-- A DRAINING connector whose queue an end has left empty completes its drain: power cut, DRAINED (R41, R96). -/
def State.drained (s : State) (c : ConnId) : State :=
  if s.conns[c].state = .draining ∧ s.conns[c].queue = [] then s.cutTo c .poweredOff .off .drained 0 else s

/-- A POWERING connector after PG is seen: ON, a due ATTENTION, then a start decision (R29, R45, R77). The order of the
three is the model's choice (log entry 9). -/
def State.cameOn (s : State) (c : ConnId) (lines : BusLines) : State :=
  let k := s.conns[c]
  (((s.withConn c
    { k with
      state := .on, pgDeadline := none, mrst := false, engine := .idle,
      cooldown := if k.faultCounter = 1 then some (10 * k.config.recurrenceWindow) else k.cooldown }).withOut
    (s.out.raise (s.moveEvent c .on .powerGood k.faultCounter))).attended c).started c lines

/-- The connector after it left the map (R15). -/
def Connector.leftMap (k : Connector) : Connector :=
  { k.settled .unused 0 with debounce := none, attnTimer := none, steady := false, armed := false }

/-- The connector after it entered the map: debounce and the attention measure start afresh (R15, R45). -/
def Connector.enteredMap (k : Connector) : Connector :=
  { k.settled .empty 0 with
    debounce := if k.presAsserted then some k.config.debounceMs else none
    attnTimer := if k.attnAsserted then some 1 else none
    steady := false }

/-- The part as a device reset begins (R178); `sources` are those that take part so far. -/
def State.resetBegun (s : State) (sources : ResetSources) : State :=
  { s with
    conns :=
      s.conns.map fun k =>
        { k with
          pen := false, mrst := true, engine := .off, queue := [], debounce := none, attnTimer := none, inrush := none,
          qualify := none, pgDeadline := none, cooldown := none }
    admissionQueue := []
    restartPending := false
    out := { s.out with responses := [], events := [] }
    link :=
      { s.link with
        rx := .hunting, ackPending := false, spacing := none, replay := [], syncAck := none, naks := [],
        replayTimer := none, holdPause := none, hostLoss := none, sending := none }
    control := { s.control with restartGuard := none }
    resetting := some sources }

/-- The part after a pending RESTART has taken effect (R164, R178). -/
def State.restarted (s : State) : State := s.resetBegun ⟨false, false, true⟩

/-- The link after it entered DOWN (R146). -/
def Link.wentDown (l : Link) (hostLossTimeout : Nat) : Link :=
  { l with
    state := .down
    counters := { l.counters with linkDowns := min (l.counters.linkDowns + 1) 65535 }
    replayTimer := none
    holdPause := none
    naks := l.naks.filter fun cause => cause == .unsynced
    ackPending := false
    gapNakSent := false
    hostLoss := if hostLossTimeout = 0 then none else some (1000 * hostLossTimeout) }

/-- The link after a resend pass (R155). -/
def Link.passed (l : Link) : Link :=
  if l.replay = [] then l
  else
    { l with
      replay := l.replay.map fun f => { f with marked := true }
      counters := { l.counters with replays := min (l.counters.replays + 1) 65535 } }

/-- The link after the `k` oldest frames were acknowledged (R156). -/
def Link.acked (l : Link) (k replayTimeout : Nat) : Link :=
  if k = 0 then l
  else
    { l with
      replay := l.replay.drop k
      replayCount := 0
      replayTimer := if l.replay.length ≤ k then none else some replayTimeout }

/-- The link with one more protocol error (R165). -/
def Link.erred (l : Link) : Link :=
  { l with counters := { l.counters with protocolErrors := min (l.counters.protocolErrors + 1) 65535 } }

/-- The link with a NAK of the cause waiting, at most one of each (R139). -/
def Link.nakking (l : Link) (cause : NakCause) : Link :=
  { l with naks := if cause ∈ l.naks then l.naks else l.naks ++ [cause] }

/-! ### Requests -/

/-- The message at the head of the admission queue is taken. -/
def State.taken (s : State) : State := { s with admissionQueue := s.admissionQueue.tail }

/-- The head message is answered and nothing else happens (R53, R64). -/
def State.answered (s : State) (code tag : Byte) (status : Status) (body : ResponseBody) : State :=
  s.taken.withOut (s.out.respond { code, tag, status, body })

/-- A power request is answered with the state and counter after its action (R43). -/
def State.answeredPower (s : State) (c : ConnId) (code tag slot : Byte) (status : Status) : State :=
  s.answered code tag status (.power c slot.toNat s.conns[c].state s.conns[c].faultCounter)

/-- The checks common to all requests pass (R53, checks 2 to 4). -/
abbrev State.Admits (s : State) (tag : Byte) : Prop :=
  s.resetting = none ∧ tag.toNat < 32 ∧ s.restartPending = false ∧ tag ∉ s.tags

/-- The refusal of checks 2 to 4 (R53). -/
def State.commonRefusal (s : State) (tag : Byte) : Option Status :=
  if 32 ≤ tag.toNat then some .badParam
  else if s.restartPending = true then some .restarting
  else if tag ∈ s.tags then some .tagInUse
  else none

/-- The request commands with the code each takes (R184); a SLOT_POWER_OFF has one command for each mode. -/
def requestCommands (lines : BusLines) : List (Byte × Instr) :=
  [(0x01, .getStatus), (0x02, .setLink), (0x03, .restart), (0x04, .setSlotMap), (0x05, .getSlotMap),
   (0x06, .slotConfigure), (0x07, .slotStatus), (0x08, .slotPowerOn lines), (0x09, .slotPowerOffAbort),
   (0x09, .slotPowerOffDrain), (0x0A, .slotClearFault), (0x0B, .attentionArm), (0x10, .postWrite lines),
   (0x11, .write lines), (0x12, .read lines), (0x13, .fence lines), (0x14, .pulseReset lines),
   (0x15, .clearBus lines), (0x16, .cancel lines)]

/-- The code of the messages a request command takes (R184); UNKNOWN_REQUEST takes those of no code. -/
def requestCode : Instr → Option Byte
  | .getStatus => some 0x01
  | .setLink => some 0x02
  | .restart => some 0x03
  | .setSlotMap => some 0x04
  | .getSlotMap => some 0x05
  | .slotConfigure => some 0x06
  | .slotStatus => some 0x07
  | .slotPowerOn _ => some 0x08
  | .slotPowerOffAbort | .slotPowerOffDrain => some 0x09
  | .slotClearFault => some 0x0A
  | .attentionArm => some 0x0B
  | .postWrite _ => some 0x10
  | .write _ => some 0x11
  | .read _ => some 0x12
  | .fence _ => some 0x13
  | .pulseReset _ => some 0x14
  | .clearBus _ => some 0x15
  | .cancel _ => some 0x16
  | .unknownRequest | .deviceResetBegin _ | .deviceResetEnd _ | .presenceInputChange _ _ | .presenceDebounceExpiry _ _
  | .ocInputChange _ _ | .pgInputChange _ _ _ | .inrushTimerExpiry _ | .qualifyTimerExpiry _ | .pgDeadlineExpiry _
  | .retryDelayExpiry _ _ | .recurrenceWindowExpiry _ | .attnInputChange _ _ | .attentionSteady _ | .dataFrame _
  | .ackFrame _ | .nakGap _ | .nakHold _ | .nakUnsynced _ | .sync _ | .frameDiscard _ | .interByteTimeout _
  | .replayTimerExpiry | .holdPauseExpiry | .unsyncedNakSpacingExpiry | .hostLossTimerExpiry | .transmitNextFrame
  | .frameSchedule | .restartGuardExpiry | .byteCompleted _ _ | .attemptOutcome _ _ _ | .retryIntervalExpiry _ _
  | .deadlineExpiry _ _ | .stretchLimit _ | .busClearEnd _ _ _ _ | .abortEnd _ _ | .pulseTimerExpiry _ _ => none

/-- The command takes messages from the admission queue. -/
def isRequest (i : Instr) : Bool := i == .unknownRequest || (requestCode i).isSome

/-- The codes of requests (R184). -/
def knownCodes : List Byte :=
  [0x01, 0x02, 0x03, 0x04, 0x05, 0x06, 0x07, 0x08, 0x09, 0x0A, 0x0B, 0x10, 0x11, 0x12, 0x13, 0x14, 0x15, 0x16]

/-- The message is one that the command takes: it has the command's code, and, for a SLOT_POWER_OFF of the right length,
not the mode of the code's other row (log entry 15); UNKNOWN_REQUEST takes what has the code of no request. -/
def takes (i : Instr) (m : Message) : Bool :=
  if i = .unknownRequest then m.head?.all fun code => !knownCodes.contains code
  else
    (requestCode i).isSome && m.head? == requestCode i &&
      !(i == .slotPowerOffAbort && m.length == 4 && m[3]? == some 0x01) &&
      !(i == .slotPowerOffDrain && m.length == 4 && m[3]? == some 0x00)

/-- The connector a command is about, for the commands of one connector's inputs, timers and engine. -/
def connectorOf : Instr → Option ConnId
  | .presenceInputChange c _ | .presenceDebounceExpiry c _ | .ocInputChange c _ | .pgInputChange c _ _
  | .inrushTimerExpiry c | .qualifyTimerExpiry c | .pgDeadlineExpiry c | .retryDelayExpiry c _
  | .recurrenceWindowExpiry c | .attnInputChange c _ | .attentionSteady c | .byteCompleted c _
  | .attemptOutcome c _ _ | .stretchLimit c | .busClearEnd c _ _ _ | .abortEnd c _ | .pulseTimerExpiry c _ => some c
  | .deviceResetBegin _ | .deviceResetEnd _ | .dataFrame _ | .ackFrame _ | .nakGap _ | .nakHold _ | .nakUnsynced _
  | .sync _ | .frameDiscard _ | .interByteTimeout _ | .replayTimerExpiry | .holdPauseExpiry
  | .unsyncedNakSpacingExpiry | .hostLossTimerExpiry | .transmitNextFrame | .frameSchedule | .restartGuardExpiry
  | .unknownRequest | .getStatus | .setLink | .restart | .setSlotMap | .getSlotMap | .slotConfigure | .slotStatus
  | .slotPowerOn _ | .slotPowerOffAbort | .slotPowerOffDrain | .slotClearFault | .attentionArm | .postWrite _
  | .write _ | .read _ | .fence _ | .pulseReset _ | .clearBus _ | .cancel _ | .retryIntervalExpiry _ _
  | .deadlineExpiry _ _ => none

/-- The length of the message is the one its code calls for (R185). -/
def lengthFits (m : Message) : Bool :=
  match m with
  | [] => false
  | code :: _ =>
    let n := m.length
    if code = 0x03 ∨ code = 0x05 then n == 2
    else if code = 0x02 then n == 6
    else if code = 0x04 then n == 11 && m[2]? == some 8
    else if code = 0x06 then n == 18
    else if code = 0x09 ∨ code = 0x14 then n == 4
    else if code = 0x10 then m[4]?.any fun count => n == 5 + count.toNat
    else if code = 0x11 then m[5]?.any fun count => n == 6 + count.toNat
    else if code = 0x12 then m[6]?.any fun count => n == 7 + count.toNat
    else n == 3

/-- The byte at an offset of a message, as a number. -/
def byteAt (m : Message) (i : Nat) : Nat := (m[i]?.getD 0).toNat

/-- The two-byte field at an offset of a message (R186). -/
def wordAt (m : Message) (i : Nat) : Nat := byteAt m i + 256 * byteAt m (i + 1)

/-- Check 6 for the control requests and CANCEL (R54, R169, R177, R186). -/
def controlInRange (m : Message) : Bool :=
  match byteAt m 0 with
  | 0x01 => byteAt m 2 ≤ 1
  | 0x02 => 5 ≤ wordAt m 2 && wordAt m 2 ≤ 500 && byteAt m 5 ≤ 1
  | 0x04 => (m.drop 3).all fun entry => entry.toNat ≤ 7 || entry == 0xFF
  | 0x06 =>
    byteAt m 3 ≤ 1 && byteAt m 4 ≤ 1 && 1 ≤ byteAt m 5 && byteAt m 6 ≤ 15 && 5 ≤ wordAt m 7 && wordAt m 7 ≤ 1000 &&
      1 ≤ byteAt m 9 && 1 ≤ byteAt m 10 && 1 ≤ byteAt m 11 && byteAt m 12 ≤ 1 && 1 ≤ byteAt m 13 && byteAt m 14 ≤ 15 &&
      (wordAt m 15 == 0 || 10 ≤ wordAt m 15 && wordAt m 15 ≤ 60000) && 1 ≤ byteAt m 17 && byteAt m 17 ≤ 16
  | 0x09 => byteAt m 3 ≤ 1
  | 0x16 => byteAt m 2 ≤ 31
  | _ => true

/-- The status of the first of checks 2 to 6 that a control request or CANCEL fails (R53, R54); the slot is checked
where the request names one. -/
def State.controlRefusal (s : State) (m : Message) : Option Status :=
  match s.commonRefusal (m[1]?.getD 0) with
  | some status => some status
  | none =>
    if 6 ≤ byteAt m 0 ∧ byteAt m 0 ≤ 0x0B ∧ s.resolve (m[2]?.getD 0) = none then some .badSlot
    else if controlInRange m then none
    else some .badParam

/-- A bus-class request by its fields; `count` is a READ's read count or a PULSE_RESET's length. -/
structure BusRequest where
  kind : EntryKind
  address : Byte
  budget : Byte
  count : Byte
  data : List Byte
  deriving DecidableEq, Repr

/-- The command that takes the request. -/
def BusRequest.command (r : BusRequest) (lines : BusLines) : Instr :=
  match r.kind with
  | .postWrite => .postWrite lines
  | .write => .write lines
  | .read => .read lines
  | .fence => .fence lines
  | .pulseReset => .pulseReset lines
  | .clearBus => .clearBus lines

/-- The request's code (R184). -/
def BusRequest.code (r : BusRequest) : Byte :=
  match r.kind with
  | .postWrite => 0x10
  | .write => 0x11
  | .read => 0x12
  | .fence => 0x13
  | .pulseReset => 0x14
  | .clearBus => 0x15

/-- The message that carries the request (R185). -/
def BusRequest.message (r : BusRequest) (tag slot : Byte) : Message :=
  let length := BitVec.ofNat 8 r.data.length
  match r.kind with
  | .postWrite => [0x10, tag, slot, r.address, length] ++ r.data
  | .write => [0x11, tag, slot, r.address, r.budget, length] ++ r.data
  | .read => [0x12, tag, slot, r.address, r.budget, r.count, length] ++ r.data
  | .fence => [0x13, tag, slot]
  | .pulseReset => [0x14, tag, slot, r.count]
  | .clearBus => [0x15, tag, slot]

/-- The ranges of check 6 (R54). -/
def BusRequest.inRange (r : BusRequest) : Bool :=
  match r.kind with
  | .postWrite => decide (r.address.toNat ≤ 127 ∧ 1 ≤ r.data.length ∧ r.data.length ≤ 32)
  | .write => decide (r.address.toNat ≤ 127 ∧ 1 ≤ r.data.length ∧ r.data.length ≤ 32 ∧ r.budget.toNat ≤ 15)
  | .read =>
    decide (r.address.toNat ≤ 127 ∧ r.data.length ≤ 4 ∧ 1 ≤ r.count.toNat ∧ r.count.toNat ≤ 32 ∧ r.budget.toNat ≤ 15)
  | .pulseReset => decide (1 ≤ r.count.toNat)
  | .fence | .clearBus => true

/-- The entry the request becomes on a connector (R59, R61). -/
def BusRequest.entry (r : BusRequest) (k : Connector) (tag slot : Byte) : Entry where
  tag := tag
  kind := r.kind
  slot := slot.toNat
  address :=
    match r.kind with
    | .postWrite | .write | .read => some r.address
    | .fence | .pulseReset | .clearBus => none
  writeBytes :=
    match r.kind with
    | .postWrite | .write | .read => r.data
    | .fence | .pulseReset | .clearBus => []
  readCount := if r.kind = .read then some r.count.toNat else none
  pulseMs := if r.kind = .pulseReset then some r.count.toNat else none
  budget :=
    match r.kind with
    | .postWrite => some k.config.postedRetries
    | .write | .read => some r.budget.toNat
    | .fence | .pulseReset | .clearBus => none
  retriesUsed :=
    match r.kind with
    | .postWrite | .write | .read => some 0
    | .fence | .pulseReset | .clearBus => none
  state := .waiting
  deadline := if k.config.lifetimeMs = 0 then none else some k.config.lifetimeMs
  retryTimer := none
  postingNumber := if r.kind = .postWrite then some k.postingCounter else none
  acked := 0

/-- The status of the first check a bus-class request fails, checks 2 to 9 in their order (R53 to R57). -/
def BusRequest.refusal (r : BusRequest) (s : State) (tag slot : Byte) : Option Status :=
  match s.commonRefusal tag with
  | some status => some status
  | none =>
    match s.resolve slot with
    | none => some .badSlot
    | some c =>
      if r.inRange = false then some .badParam
      else if s.conns[c].state ≠ .powering ∧ s.conns[c].state ≠ .on then some .slotNotReady
      else if s.conns[c].config.quota ≤ s.conns[c].queue.length then some .quotaFull
      else if 48 ≤ s.poolUsed then some .poolFull
      else none

/-- The Outbound Unit after a bus-class request is admitted: a POST_WRITE is answered OK, a tracked request not yet
(R64). -/
def BusRequest.outAfter (r : BusRequest) (s : State) (c : ConnId) (tag slot : Byte) : Outbound :=
  if r.kind = .postWrite then
    s.out.respond
      { code := 0x10, tag, status := .ok, body := .posted c slot.toNat s.conns[c].postingCounter }
  else s.out

/-- The posting counter after a bus-class request is admitted (R60). -/
def BusRequest.counterAfter (r : BusRequest) (k : Connector) : Half :=
  if r.kind = .postWrite then k.postingCounter + 1 else k.postingCounter

/-! ### The bytes of frames (R142, R183), as numbers -/

/-- One bit enters the check register (R142): the register is shifted, and the generator x^16 + x^12 + x^5 + 1 is taken
off where the bit that leaves it differs from the one that enters. -/
def checkShift (register : Nat) (bit : Bool) : Nat :=
  let shifted := 2 * register % 2 ^ 16
  if decide (2 ^ 15 ≤ register) = bit then shifted else shifted ^^^ (2 ^ 12 + 2 ^ 5 + 1)

/-- The frame check of bytes (R142): each enters most significant bit first a register that starts at 0xFFFF. -/
def checkNumber (bytes : List Nat) : Nat :=
  (bytes.flatMap fun b => (List.range 8).map fun i => b.testBit (7 - i)).foldl checkShift 0xFFFF

/-- A frame on the line (R183). -/
def frameNumbers (type number : Nat) (payload : List Nat) : List Nat :=
  let covered := (64 * type + number) :: payload.length :: payload
  0xD2 :: covered ++ [checkNumber covered / 256, checkNumber covered % 256]

/-- A byte that begins no frame (R140, R141). -/
def RxByte.idle (b : RxByte) : Bool := b.damaged || b.value != 0xD2

/-- The bytes after a start byte are no whole frame yet, and none of them has discarded it (R141). -/
abbrev partOfFrame (taken : List Byte) : Prop :=
  ∀ length, taken[1]? = some length → length.toNat ≤ 80 ∧ taken.length < length.toNat + 4

/-- A frame taken whole is discarded (R143, R183): the check differs, or the type and number are no frame of the host, or
the payload is not the one the type calls for. -/
abbrev isDiscarded (control : Byte) (payload : List Byte) (checkHigh checkLow : Byte) : Prop :=
  256 * checkHigh.toNat + checkLow.toNat ≠
      checkNumber (control.toNat :: payload.length :: payload.map fun b => b.toNat) ∨
    (control.toNat / 64 = 1 ∧ payload ≠ []) ∨
    (control.toNat / 64 = 2 ∧ payload ≠ [0x01] ∧ payload ≠ [0x02] ∧ payload ≠ [0x03]) ∨
    (control.toNat / 64 = 3 ∧ (control.toNat % 64 ≠ 1 ∨ payload ≠ []))

/-! ### The bytes of messages (R184, R186, R187, section 9.6), as numbers -/

/-- The number a table gives a name. -/
def numberIn {α : Type} [DecidableEq α] (table : List (α × Nat)) (x : α) : Nat := (table.lookup x).getD 0

/-- Connector state codes. -/
def stateNumber : ConnState → Nat :=
  numberIn
    [(.unused, 0), (.empty, 1), (.off, 2), (.powering, 3), (.on, 4), (.draining, 5), (.cooldown, 6), (.faulted, 7)]

/-- Cause codes. -/
def causeNumber : Cause → Nat :=
  numberIn
    [(.inserted, 1), (.removed, 2), (.autoOn, 3), (.powerGood, 4), (.overcurrent, 5), (.pgLost, 6), (.pgTimeout, 7),
     (.retry, 8), (.hostOn, 9), (.hostOff, 10), (.hostDrain, 11), (.drained, 12), (.faultCleared, 13), (.hostLoss, 14),
     (.mapped, 15), (.unmapped, 16)]

/-- Status codes. -/
def statusNumber : Status → Nat :=
  numberIn
    [(.ok, 0), (.unknownRequest, 1), (.badLength, 2), (.badParam, 3), (.badSlot, 4), (.tagInUse, 5), (.poolFull, 6),
     (.quotaFull, 7), (.slotNotReady, 8), (.faultLatched, 9), (.mapConflict, 10), (.notFound, 11), (.restarting, 12),
     (.noTarget, 32), (.dataRefused, 33), (.busStuck, 34), (.busHung, 35), (.slotFault, 36), (.removed, 37),
     (.poweredOff, 38), (.expired, 39), (.cancelled, 40)]

/-- Engine state codes. -/
def engineNumber : EngineState → Nat :=
  numberIn [(.off, 0), (.idle, 1), (.busy, 2), (.aborting, 3), (.clearing, 4), (.hung, 5)]

/-- A field of one byte. -/
def byteField (n : Nat) : List Nat := [n % 256]
/-- A field of two bytes, least significant first. -/
def wordField (n : Nat) : List Nat := [n % 256, n / 256 % 256]

/-- A flag or a condition bit. -/
def bit (b : Bool) : Nat := if b then 1 else 0

/-- The slot configuration record, 15 bytes. -/
def configNumbers (r : SlotConfig) : List Nat :=
  [bit r.autoPower, bit r.autoRetry] ++ byteField r.inrushMs ++ byteField r.qualifyMs ++ wordField r.pgDeadlineMs
    ++ byteField r.retryDelay ++ byteField r.recurrenceWindow ++ byteField r.debounceMs
    ++ [if r.busSpeed = .khz400 then 1 else 0] ++ byteField r.retryIntervalMs ++ byteField r.postedRetries
    ++ wordField r.lifetimeMs ++ byteField r.quota

/-- The slot status record, 27 bytes. -/
def slotStatusNumbers (r : SlotStatusRecord) : List Nat :=
  [r.conn.val] ++ byteField r.slot ++ [stateNumber r.state, r.faultCounter.val,
      bit r.presAsserted + 2 * bit r.pgAsserted + 4 * bit r.ocAsserted + 8 * bit r.attnAsserted + 16 * bit r.armed,
      engineNumber r.engine]
    ++ byteField r.held ++ byteField r.waiting ++ byteField r.active ++ byteField r.backoff
    ++ wordField r.nextPosting.toNat ++ configNumbers r.config

/-- The part status record, 27 bytes. -/
def partStatusNumbers (r : PartStatusRecord) : List Nat :=
  [0x08, 0x5C, 1, r.linkRate.toNat, r.strapDisabled.toNat,
      numberIn [(ResetCause.powerOn, 1), (.pin, 2), (.restart, 3)] r.resetCause]
    ++ byteField r.poolUsed ++ byteField r.placesInUse ++ byteField r.eventDepth ++ byteField r.lostEvents
    ++ [numberIn [(LinkState.start, 0), (.up, 1), (.down, 2)] r.linkState]
    ++ wordField r.counters.formatDiscards ++ wordField r.counters.gaps ++ wordField r.counters.duplicates
    ++ wordField r.counters.replays ++ wordField r.counters.linkDowns ++ wordField r.counters.protocolErrors
    ++ wordField r.replayTimeout ++ byteField r.hostLossTimeout
    ++ [if r.hostLossAction = .powerOffAll then 1 else 0]

/-- A response body, from offset 4 of its message. -/
def bodyNumbers : ResponseBody → List Nat
  | .empty => []
  | .posted conn slot number => [conn.val] ++ byteField slot ++ wordField number.toNat
  | .acked conn slot n => [conn.val] ++ byteField slot ++ byteField n
  | .readData conn slot n data => [conn.val] ++ byteField slot ++ byteField n ++ data.map fun b => b.toNat
  | .place conn slot => [conn.val] ++ byteField slot
  | .power conn slot state counter => [conn.val] ++ byteField slot ++ [stateNumber state, counter.val]
  | .slotStatus r => slotStatusNumbers r
  | .slotMap table disabled =>
    (table.toList.map fun entry => match entry with
      | some c => c.val
      | none => 255) ++ [disabled.toNat]
  | .target tag => [tag.toNat]
  | .partStatus r => partStatusNumbers r

/-- An event message. -/
def eventNumbers : Event → List Nat
  | .started cause => [0x40, numberIn [(ResetCause.powerOn, 1), (.pin, 2), (.restart, 3)] cause]
  | .slotState r =>
    [0x41, r.conn.val] ++ byteField r.slot ++
      [stateNumber r.fromState, stateNumber r.toState, causeNumber r.cause, r.faultCounter.val] ++
      byteField r.transitions
  | .postedFailed conn slot number status acked =>
    [0x42, conn.val] ++ byteField slot ++ wordField number.toNat ++ [statusNumber status] ++ byteField acked
  | .attention conn slot => [0x43, conn.val] ++ byteField slot
  | .hostLoss action moved => [0x44, if action = .powerOffAll then 1 else 0, moved.toNat]
  | .eventsLost count => [0x45] ++ byteField count

end Sys2Proof.Machine
end

