-- ==== Sys2Proof/Certificates/Slice0/Obligations.lean ====
section
/-! DEFINITION. The statements for the provers. -/

open Sys2Proof Sys2Proof.Machine

/-! ### The machine as a whole -/

/-- One step runs the command at the front of the queue on the state with the queue's rest; with none waiting each engine
ticks by what its bus lines read, which is left free, and nothing else changes but the count of ticks. That is the model's
choice (log entries 13, 21). -/
def Obligations.StepRunsFrontCommand : Prop :=
  (∀ (i : Instr) (rest : List Instr) (s : State),
      step { s with pending := i :: rest } = exec i { s with pending := rest }) ∧
    ∀ s : State, s.pending = [] →
      step s =
        .next
          { s with
            ticks := s.ticks + 1
            conns :=
              Vector.ofFn fun c =>
                { s.conns[c] with engine := s.conns[c].engine.tick (Config.busReading s.ticks c) } }

/-- Every command answers a next state in every state, with the queue of commands and the count of ticks as they were. That a command whose event
cannot occur leaves the state as it is, rather than stopping, is the model's choice (log entry 3). -/
def Obligations.EveryCommandAnswersNext : Prop :=
  ∀ (i : Instr) (s : State), ∃ t, exec i s = .next t ∧ t.pending = s.pending ∧ t.ticks = s.ticks

/-- The invariants of this file hold right after a power-on reset. That reset is the power-on one with no strap and no
input asserted is the model's choice (log entries 1, 2). -/
def Obligations.InvariantsHoldAtReset : Prop :=
  State.reset.out.Bounded ∧ State.reset.TagsDistinct ∧ State.reset.PoolBounded ∧
    (∀ c : ConnId, State.reset.conns[c].StartedInOrder ∧ State.reset.conns[c].OneActive) ∧
    State.reset.PowerAgrees ∧ State.reset.CountersAgree ∧ State.reset.TimersAgree ∧ State.reset.MapAgrees ∧
    State.reset.EntrySlotsStand ∧ State.reset.link.WindowAgrees ∧ State.reset.link.Tidy ∧ State.reset.RestartAgrees

/-- R123: the Event Queue holds at most 32 events, of which at most one SLOT_STATE and one ATTENTION for each
connector. -/
def Obligations.StepKeepsEventQueueBounds : Prop :=
  ∀ s t : State, s.out.Bounded → step s = .next t → t.out.Bounded

/-- R58: no two allocated entries share a tag. -/
def Obligations.StepKeepsTagsDistinct : Prop :=
  ∀ s t : State, s.TagsDistinct → step s = .next t → t.TagsDistinct

/-- R56, R57, R169: no connector holds more than 16 entries, the pool no more than 48, every record stays in range. -/
def Obligations.StepKeepsPoolBounds : Prop :=
  ∀ s t : State, s.PoolBounded → step s = .next t → t.PoolBounded

/-- R76: an entry that has started did so at the head of its queue, or, a posted one, with no older posted entry. -/
def Obligations.StepKeepsStartOrder : Prop :=
  ∀ s t : State, s.TagsDistinct → (∀ c : ConnId, s.conns[c].StartedInOrder) → step s = .next t →
    ∀ c : ConnId, t.conns[c].StartedInOrder

/-- R75, R101: at most one entry of a connector is ACTIVE, only in ON or DRAINING, and it is the one whose work the engine
has in hand; the engine's phase, line step, readings and clear pulse count are ones that work can have. -/
def Obligations.StepKeepsOneActive : Prop :=
  ∀ s t : State, s.TagsDistinct → (∀ c : ConnId, s.conns[c].OneActive) → step s = .next t →
    ∀ c : ConnId, t.conns[c].OneActive

/-- R20, R21, R23, R24: outputs, engine and held entries follow the connector state. That an engine reads OFF while a
device reset lasts is the model's choice (log entry 12). -/
def Obligations.StepKeepsPowerOutputs : Prop :=
  ∀ s t : State, s.PowerAgrees → step s = .next t → t.PowerAgrees

/-- R35: where the fault counter is 1, and when the cooldown/recurrence timer runs. -/
def Obligations.StepKeepsFaultCounters : Prop :=
  ∀ s t : State, s.CountersAgree → step s = .next t → t.CountersAgree

/-- R25, R28 to R32, R45: the supervisor's timers run exactly when their conditions hold. That an attention input
asserted as a device reset ends starts its measure is the model's choice (log entry 8). -/
def Obligations.StepKeepsSupervisorTimers : Prop :=
  ∀ s t : State, s.TimersAgree → step s = .next t → t.TimersAgree

/-- R10, R12: no two slots lead to one connector, none to a strap-disabled one, and UNUSED means named by no slot; where
entries are held only with power on, the slot recorded in an entry stays the slot its connector holds. -/
def Obligations.StepKeepsSlotMapRelation : Prop :=
  (∀ s t : State, s.MapAgrees → step s = .next t → t.MapAgrees) ∧
    ∀ s t : State, s.MapAgrees → s.PowerAgrees → s.EntrySlotsStand → step s = .next t → t.EntrySlotsStand

/-- R154: at most 8 frames in the replay buffer, numbered consecutively modulo 64 up to T. -/
def Obligations.StepKeepsReplayWindow : Prop :=
  ∀ s t : State, s.link.WindowAgrees → step s = .next t → t.link.WindowAgrees

/-- R146, R147, R151, R158, R160, R163: what runs and waits in each link state. -/
def Obligations.StepKeepsLinkTidy : Prop :=
  ∀ s t : State, s.link.Tidy → step s = .next t → t.link.Tidy

/-- R69, R164, R181: a pending RESTART keeps its guard running, the link UP and its OK in exactly one place. -/
def Obligations.StepKeepsRestartWait : Prop :=
  ∀ s t : State, s.RestartAgrees → step s = .next t → t.RestartAgrees

/-- R51, R64, R120: no command but DATA_FRAME and FRAME_SCHEDULE changes how many response places are in use, a device
reset apart; those two change it by one at most, DATA_FRAME never above 64. -/
def Obligations.ResponsePlacesConserved : Prop :=
  ∀ (i : Instr) (s t : State), s.TagsDistinct → s.resetting = none → t.resetting = none → exec i s = .next t →
    ((∀ raw, i ≠ .dataFrame raw) → i ≠ .frameSchedule → t.placesInUse = s.placesInUse) ∧
      (∀ raw, i = .dataFrame raw →
        t.placesInUse = s.placesInUse ∨ (s.placesInUse < 64 ∧ t.placesInUse = s.placesInUse + 1)) ∧
      (i = .frameSchedule → t.placesInUse = s.placesInUse ∨ t.placesInUse + 1 = s.placesInUse)

/-- R121: responses join at the tail and leave only from the head, when framed; a device reset apart. -/
def Obligations.ResponsesKeepTheirOrder : Prop :=
  ∀ (i : Instr) (s t : State), s.resetting = none → t.resetting = none → exec i s = .next t →
    (i ≠ .frameSchedule → s.out.responses <+: t.out.responses) ∧
      (i = .frameSchedule → t.out.responses = s.out.responses ∨ t.out.responses = s.out.responses.tail)

/-- R1, R72: a command of one connector's inputs, timers or engine changes no other connector and nothing of the part but
the Outbound Unit; an entry's two timers are timers of the connector that holds it. -/
def Obligations.ConnectorsAreIndependent : Prop :=
  (∀ (i : Instr) (c : ConnId) (s t : State), connectorOf i = some c → exec i s = .next t →
      ∃ k o, t = (s.withConn c k).withOut o) ∧
    ∀ (i : Instr) (tag : Byte) (lines : BusLines) (s t : State),
      (i = .deadlineExpiry tag lines ∨ i = .retryIntervalExpiry tag lines) → exec i s = .next t →
      if tag ∈ s.tags then
        ∃ c k o, (∃ e ∈ s.conns[c].queue, e.tag = tag) ∧ t = (s.withConn c k).withOut o
      else t = s

/-- R139, R144, R146, R161, R180: the link enters UP only by a SYNC, and leaves it only at an expiry of the replay timer, a
NAK(UNSYNCED) or the end of a device reset. That UP stands until the reset's end is the model's choice (log entry 12). -/
def Obligations.UpIsEnteredAndLeftByNamedCommands : Prop :=
  ∀ (i : Instr) (s t : State), exec i s = .next t →
    (s.link.state ≠ .up → t.link.state = .up → ∃ raw, i = .sync raw) ∧
      (s.link.state = .up → t.link.state ≠ .up →
        i = .replayTimerExpiry ∨ (∃ raw, i = .nakUnsynced raw) ∨ ∃ straps, i = .deviceResetEnd straps)

/-- R69, R53: while the restart-pending flag is set, a request command that finds no message of its own at the head
changes nothing, and one that does answers it with the status of check 1, 2 or 3 and has no other effect. -/
def Obligations.RestartPendingStopsAdmission : Prop :=
  ∀ (i : Instr) (s : State), isRequest i = true → s.restartPending = true →
    ((s.resetting ≠ none ∨ ∀ m rest, s.admissionQueue = m :: rest → takes i m = false) → exec i s = .next s) ∧
      ∀ m rest, s.resetting = none → s.admissionQueue = m :: rest → takes i m = true →
        let code := m.headD 0xFF
        let tag := (m[1]?).getD 0xFF
        exec i s =
          .next
            (s.answered code tag
              (if m = [] then .badLength
              else if code ∉ knownCodes then .unknownRequest
              else if lengthFits m = false then .badLength
              else if 32 ≤ tag.toNat then .badParam
              else .restarting)
              .empty)

/-- R7, R178: while a device reset lasts, a command other than the reset's own two changes nothing but the raw input
levels that are recorded. What the blocks hold meanwhile is the model's choice (log entries 3, 11, 12). -/
def Obligations.DeviceResetHoldsEverything : Prop :=
  ∀ (i : Instr) (s : State), s.resetting ≠ none → (∀ source, i ≠ .deviceResetBegin source) →
    (∀ straps, i ≠ .deviceResetEnd straps) →
    ∃ t, exec i s = .next { s with conns := t } ∧
      ∀ c : ConnId, ∃ pres oc pg attn,
        t[c] = { s.conns[c] with presAsserted := pres, ocAsserted := oc, pgAsserted := pg, attnAsserted := attn }

/-! ### Shared rules -/

/-- R123, R126, R128, R130: an event is merged, absorbed, placed at the tail, or lost and counted. -/
def Obligations.EventsAreMergedPlacedOrLost : Prop :=
  ∀ (o : Outbound) (e : Event),
    let placed : Outbound :=
      if o.events.length < 32 then { o with events := o.events ++ [e] }
      else { o with lostEvents := min (o.lostEvents + 1) 255 }
    o.raise e =
      match e with
      | .slotState r =>
        if o.events.any (Event.isStateOf r.conn) then
          { o with
            events :=
              o.events.map fun pending =>
                match pending with
                | .slotState p =>
                  if p.conn = r.conn then
                    .slotState { r with conn := p.conn, fromState := p.fromState, transitions := min (p.transitions + 1) 255 }
                  else pending
                | other => other }
        else placed
      | .attention c _ => if o.events.any (Event.isAttentionOf c) then o else placed
      | .started _ | .postedFailed _ _ _ _ _ | .hostLoss _ _ | .eventsLost _ => placed

/-- R75 to R81, R103, R106: the entry chosen is the oldest WAITING entry that is eligible, a posted one with no older
posted entry, a tracked one at the head; a start decision hands its work to the engine, or ends it at once and decides
again, where the engine is IDLE or HUNG and no entry is ACTIVE. -/
def Obligations.StartChoosesOldestEligible : Prop :=
  (∀ (k : Connector) (e : Entry),
    let eligible := fun (older : List Entry) (x : Entry) =>
      x.state = .waiting ∧ (if x.posted then older.all (fun y => !y.posted) = true else older = [])
    k.chosen = some e ↔
      ∃ older younger, k.queue = older ++ e :: younger ∧ eligible older e ∧
        ∀ first x rest, older = first ++ x :: rest → ¬eligible first x) ∧
    ∀ (c : ConnId) (lines : BusLines) (s : State),
      let k := s.conns[c]
      let may :=
        k.state.usable = true ∧ (k.engine = .idle ∨ k.engine = .hung) ∧ ∀ x ∈ k.queue, x.state ≠ .active
      (¬may ∨ k.chosen = none → s.started c lines = s) ∧
        ∀ older e younger, s.TagsDistinct → may → k.chosen = some e → k.queue = older ++ e :: younger →
          let endedBy := fun (status : Status) =>
            (((s.withConn c { k with queue := older ++ younger }).withOut
              (s.out.afterEnd c { e with acked := 0 } status [])).drained c).started c lines
          let speed := k.config.busSpeed
          let attempt : Attempt :=
            { address := e.address.getD 0, writeBytes := e.writeBytes, readCount := e.readCount, speed,
              phase := if lines.sclHigh ∧ lines.sdaHigh then .start else .busCheck, lineStep := 0, sampled := [],
              completed := 0, received := [], refused := none }
          let active := { k with queue := older ++ { e with state := .active, acked := 0 } :: younger }
          s.started c lines =
            if k.engine = .hung ∧ e.kind ≠ .clearBus then endedBy .busHung
            else
              match e.kind with
              | .fence => endedBy .ok
              | .postWrite | .write | .read =>
                s.withConn c
                  { active with
                    engine :=
                      if lines.sclHigh ∧ lines.sdaHigh then .transferring attempt
                      else .clearing (.beforeTransfer attempt false) ⟨speed, 0, .release, 0⟩ }
              | .pulseReset => s.withConn c { active with engine := .pulsing (e.pulseMs.getD 0), mrst := true }
              | .clearBus => s.withConn c { active with engine := .clearing .requested ⟨speed, 0, .release, 0⟩ }

/-- R104, R105, R112: the course of a bus clear. By its readings still to come: high at once or after the last of nine
pulses at most, when the clear succeeds if both lines read high after the stop; low to the ninth pulse, when it fails; no
other course. By its ticks: both lines released, a pulse for each low reading before the high one, none on a free bus,
each counted as it is read, then the stop and the last reading. -/
def Obligations.BusClearCourse : Prop :=
  (∀ (b : BusClear) (left : Nat),
    (b.stage = .release ∧ b.pulses = 0 ∧ left = 10) ∨ (b.stage = .pulse ∧ b.pulses + left = 9 ∧ 1 ≤ left) →
    (∀ n after, n < left → b.result (List.replicate n false ++ [true]) after = some (linesFree after)) ∧
      (∀ after, b.result (List.replicate left false) after = some false) ∧
      ∀ data after, b.result data after ≠ none →
        (∃ n, n < left ∧ data = List.replicate n false ++ [true]) ∨ data = List.replicate left false) ∧
  (∀ (b : BusClear) (data : List Bool) (after : BusLines),
    (b.stage = .stop → b.result data after = if data = [] then some (linesFree after) else none) ∧
      ∀ success, b.stage = .ended success → b.result data after = if data = [] then some success else none) ∧
  ∀ (purpose : ClearPurpose) (speed : BusSpeed) (n : Nat) (after : BusLines), n ≤ 9 →
    let begun := Engine.clearing purpose ⟨speed, 0, .release, 0⟩
    let high : BusLines := ⟨true, true⟩
    let low : BusLines := ⟨true, false⟩
    let course :=
      ClearStage.release.steps ++ (List.replicate n ClearStage.pulse.steps).flatten ++ ClearStage.stop.steps
    let readings :=
      List.replicate (3 * n - 1) low ++ List.replicate (if n = 0 then 2 else 3) high ++ List.replicate 3 high ++ [after]
    (∀ i, i < course.length → some (begun.run (readings.take i)).drives = course[i]?) ∧
      begun.run readings = .clearing purpose ⟨speed, n, .ended (linesFree after), 0⟩ ∧
      ∀ count, 29 ≤ count → begun.run (List.replicate count low) = .clearing purpose ⟨speed, 9, .ended false, 0⟩

/-- R140 to R142, R183: every frame of the host, sent byte by byte undamaged, is received as that frame. Bytes sent as a
low start bit, eight bits from the least significant up and a high stop bit, back to back or with the idle line between
them, are sampled as those bytes; one whose stop bit is low is damaged; TXD carries a frame's bytes in that form, ten
levels to a byte and none between them. The bytes of every frame, and their check, as numbers. -/
def Obligations.FramesAreReceivedAsSent : Prop :=
  (∀ f : HostFrame, (∀ n payload, f = .data n payload → payload.length ≤ 80) →
      receivedFrame .hunting (undamaged (hostFrameBytes f)) = some f) ∧
    (∀ (b : Byte) (idle : Nat) (stop : Bool) (rest : List Bool),
      sampleLine
          (List.replicate idle true ++ [false, b.getLsbD 0, b.getLsbD 1, b.getLsbD 2, b.getLsbD 3, b.getLsbD 4,
            b.getLsbD 5, b.getLsbD 6, b.getLsbD 7, stop] ++ rest) =
        ⟨b, !stop⟩ :: sampleLine rest) ∧
    (∀ (l : Link) (bytes : List Byte),
      (l.sending = some bytes → sampleLine l.txdLevels = undamaged bytes ∧ l.txdLevels.length = 10 * bytes.length) ∧
        (l.sending = none → false ∉ l.txdLevels)) ∧
    (∀ (n : Seq) (payload : List Byte), payload.length ≤ 80 →
      (dataFrameBytes n payload).map (fun b => b.toNat) = frameNumbers 0 n.toNat (payload.map fun b => b.toNat)) ∧
    (∀ n : Seq,
      (ackFrameBytes n).map (fun b => b.toNat) = frameNumbers 1 n.toNat [] ∧
        (nakFrameBytes .gap n).map (fun b => b.toNat) = frameNumbers 2 n.toNat [1] ∧
        (nakFrameBytes .hold n).map (fun b => b.toNat) = frameNumbers 2 n.toNat [2] ∧
        (nakFrameBytes .unsynced n).map (fun b => b.toNat) = frameNumbers 2 n.toNat [3] ∧
        ∀ renumbered, renumbered ≤ 8 →
          (syncAckFrameBytes n renumbered).map (fun b => b.toNat) = frameNumbers 3 2 [n.toNat, renumbered]) ∧
    syncFrameBytes.map (fun b => b.toNat) = frameNumbers 3 1 [] ∧
    (∀ bytes : List Byte, (crc16 bytes).toNat = checkNumber (bytes.map fun b => b.toNat)) ∧
    checkNumber [0x31, 0x32, 0x33, 0x34, 0x35, 0x36, 0x37, 0x38, 0x39] = 0x29B1

/-! ### Device reset -/

/-- R178: a device reset begins, or the source joins the one in progress. Beyond the four things R178 names, that the
blocks keep what they hold is the model's choice (log entry 12). -/
def Obligations.DeviceResetBegins : Prop :=
  ∀ (source : ExternalReset) (s : State),
    (s.resetting = none →
      exec (.deviceResetBegin source) s =
        .next (s.resetBegun ⟨decide (source = .powerOn), decide (source = .pin), false⟩)) ∧
      ∀ r, s.resetting = some r →
        exec (.deviceResetBegin source) s =
          .next
            { s with
              resetting := some ⟨r.powerOn || decide (source = .powerOn), r.pin || decide (source = .pin), r.restart⟩ }

/-- R179, R180: the part after a device reset. That each connector keeps the input levels it had through the reset, and the
attention measure of an asserted input, are the model's choice (log entries 2, 8). -/
def Obligations.DeviceResetEnds : Prop :=
  ∀ (straps : Straps) (s : State) (r : ResetSources), s.resetting = some r →
    let cause : ResetCause := if r.powerOn then .powerOn else if r.pin then .pin else .restart
    let enabled := allConns.filter fun c => straps.cdis.getLsbD c.val = false
    ∃ t, exec (.deviceResetEnd straps) s = .next t ∧ t.resetting = none ∧ t.strapDisabled = straps.cdis ∧
      t.linkRate = straps.lrate ∧
      t.slotMap.toList = enabled.map some ++ List.replicate (8 - enabled.length) none ∧
      (∀ c : ConnId,
        let levels : Connector :=
          { Connector.initial with
            presAsserted := s.conns[c].presAsserted, ocAsserted := s.conns[c].ocAsserted,
            pgAsserted := s.conns[c].pgAsserted, attnAsserted := s.conns[c].attnAsserted }
        t.conns[c] =
          if straps.cdis.getLsbD c.val then { levels with state := .unused }
          else
            { levels with
              debounce := if levels.presAsserted then some 10 else none
              attnTimer := if levels.attnAsserted then some 1 else none }) ∧
      t.admissionQueue = [] ∧ t.restartPending = false ∧
      t.out = { responses := [], events := [.started cause], lostEvents := 0, consecutive := 0 } ∧
      t.link = Link.initial ∧
      t.control =
        { replayTimeout := 50, hostLossTimeout := 0, hostLossAction := .hold, resetCause := cause,
          restartGuard := none } ∧
      t.pending = s.pending

/-! ### Supervision -/

/-- R1, R4, R7, R25, R45: what a change of an input does by itself. That levels are recorded in UNUSED and during a device
reset is the model's choice (log entry 11). -/
def Obligations.InputChangesAreFollowed : Prop :=
  ∀ (c : ConnId) (a : Bool) (lines : BusLines) (s : State),
    let k := s.conns[c]
    (s.resetting = none → k.state ≠ .unused →
      exec (.presenceInputChange c a) s =
        .next
          (s.withConn c
            { k with
              presAsserted := a
              debounce := if a = k.state.present then none else some k.config.debounceMs })) ∧
    (s.resetting = none → k.state ≠ .unused → k.attnAsserted ≠ a →
      exec (.attnInputChange c a) s =
        .next
          (s.withConn c { k with attnAsserted := a, steady := false, attnTimer := if a then some 1 else none })) ∧
    (s.resetting ≠ none ∨ k.state.powered = false →
      exec (.ocInputChange c a) s = .next (s.withConn c { k with ocAsserted := a }) ∧
        exec (.pgInputChange c a lines) s = .next (s.withConn c { k with pgAsserted := a })) ∧
    (s.resetting ≠ none ∨ k.state = .unused →
      exec (.presenceInputChange c a) s = .next (s.withConn c { k with presAsserted := a }) ∧
        exec (.attnInputChange c a) s = .next (s.withConn c { k with attnAsserted := a }))

/-- R26, R27, R28: an insertion or a removal is taken when the presence debounce timer expires; with auto_power on the
connector powers up, and passes to ON at once where PG is asserted already. -/
def Obligations.DebounceExpiryTakesPresence : Prop :=
  ∀ (c : ConnId) (lines : BusLines) (s : State), s.resetting = none → s.conns[c].debounce.isSome = true →
    let k := s.conns[c]
    let u := s.withConn c { k with debounce := none }
    let powering := (u.moved c .off .inserted 0).poweredUp c .autoOn
    (k.state = .empty → k.config.autoPower = false →
      exec (.presenceDebounceExpiry c lines) s = .next (u.moved c .off .inserted 0)) ∧
    (k.state = .empty → k.config.autoPower = true →
      exec (.presenceDebounceExpiry c lines) s =
        .next (if k.pgAsserted then powering.cameOn c lines else powering)) ∧
    (k.state.powered = true →
      exec (.presenceDebounceExpiry c lines) s = .next (u.cutTo c .removed .empty .removed 0)) ∧
    (k.state = .off ∨ k.state = .cooldown ∨ k.state = .faulted →
      exec (.presenceDebounceExpiry c lines) s = .next (u.moved c .empty .removed 0))

/-- R28, R29, R36, R37, R45, R77: the retry delay's end, PG seen in POWERING, whether at entry or later, with the
attention due and the start decision of the entry into ON, and the recurrence window's end. -/
def Obligations.RetryPowerGoodAndWindow : Prop :=
  ∀ (c : ConnId) (lines : BusLines) (s : State), s.resetting = none →
    let k := s.conns[c]
    (k.state = .cooldown → k.cooldown.isSome = true →
      exec (.retryDelayExpiry c lines) s =
        .next (if k.pgAsserted then (s.poweredUp c .retry).cameOn c lines else s.poweredUp c .retry)) ∧
    (k.state = .powering →
      exec (.pgInputChange c true lines) s = .next ((s.withConn c { k with pgAsserted := true }).cameOn c lines) ∧
        exec (.pgInputChange c false lines) s = .next (s.withConn c { k with pgAsserted := false })) ∧
    (k.state = .powering → k.queue = [] → (k.armed && k.steady) = false →
      exec (.pgInputChange c true lines) s =
        .next
          ((s.withConn c
            { k with
              pgAsserted := true, state := .on, pgDeadline := none, mrst := false, engine := .idle,
              cooldown := if k.faultCounter = 1 then some (10 * k.config.recurrenceWindow) else k.cooldown }).withOut
            (s.out.raise (s.moveEvent c .on .powerGood k.faultCounter)))) ∧
    (k.state.usable = true → k.cooldown.isSome = true →
      exec (.recurrenceWindowExpiry c) s = .next (s.withConn c { k with cooldown := none, faultCounter := 0 }))

/-- R31, R32: a fault condition that appears starts the qualify timer, one that disappears, by OC or by PG, stops it, and
one that persists through a change of its form leaves it running. -/
def Obligations.FaultConditionIsTimed : Prop :=
  ∀ (c : ConnId) (lines : BusLines) (s : State), s.resetting = none →
    let k := s.conns[c]
    let pgFine := k.state.usable = true → k.pgAsserted = true
    (k.state.powered = true → k.inrush = none → k.ocAsserted = false → pgFine → k.config.qualifyMs ≠ 0 →
      exec (.ocInputChange c true) s =
        .next (s.withConn c { k with ocAsserted := true, qualify := some k.config.qualifyMs })) ∧
    (k.state.powered = true → k.inrush = none → k.ocAsserted = true → pgFine →
      exec (.ocInputChange c false) s = .next (s.withConn c { k with ocAsserted := false, qualify := none })) ∧
    (∀ oc, k.state.powered = true → k.inrush.isSome = true → pgFine →
      exec (.ocInputChange c oc) s = .next (s.withConn c { k with ocAsserted := oc })) ∧
    (k.state.usable = true → k.pgAsserted = true → (k.ocAsserted = false ∨ k.inrush.isSome = true) →
      k.config.qualifyMs ≠ 0 →
      exec (.pgInputChange c false lines) s =
        .next (s.withConn c { k with pgAsserted := false, qualify := some k.config.qualifyMs })) ∧
    (k.state.powered = true → k.inrush.isSome = true → k.ocAsserted = true → pgFine → k.config.qualifyMs ≠ 0 →
      exec (.inrushTimerExpiry c) s =
        .next (s.withConn c { k with inrush := none, qualify := some k.config.qualifyMs })) ∧
    (k.state.powered = true → k.inrush.isSome = true → k.ocAsserted = false →
      exec (.inrushTimerExpiry c) s = .next (s.withConn c { k with inrush := none })) ∧
    (k.state.usable = true → k.pgAsserted = false → (k.ocAsserted = false ∨ k.inrush.isSome = true) →
      exec (.pgInputChange c true lines) s = .next (s.withConn c { k with pgAsserted := true, qualify := none })) ∧
    (∀ oc, k.state.usable = true → k.pgAsserted = false →
      exec (.ocInputChange c oc) s = .next (s.withConn c { k with ocAsserted := oc })) ∧
    (∀ pg, k.state.usable = true → k.ocAsserted = true → k.inrush = none →
      exec (.pgInputChange c pg lines) s = .next (s.withConn c { k with pgAsserted := pg })) ∧
    (k.state.usable = true → k.pgAsserted = false → k.inrush.isSome = true →
      exec (.inrushTimerExpiry c) s = .next (s.withConn c { k with inrush := none }))

/-- R30 to R34: a qualified fault, and a PG deadline, taken by state; with qualify_ms 0 a fault condition is qualified as it
appears, by OC, by PG or at the end of the inrush window. -/
def Obligations.QualifiedFaultIsTaken : Prop :=
  ∀ (c : ConnId) (lines : BusLines) (s : State), s.resetting = none →
    let k := s.conns[c]
    (k.state.powered = true → k.qualify.isSome = true →
      exec (.qualifyTimerExpiry c) s = .next (s.afterFault c (if k.ocAsserted then .overcurrent else .pgLost))) ∧
    (k.state = .powering → k.pgDeadline.isSome = true →
      exec (.pgDeadlineExpiry c) s = .next (s.afterFault c .pgTimeout)) ∧
    (k.state.powered = true → k.inrush = none → k.ocAsserted = false → (k.state.usable = true → k.pgAsserted = true) →
      k.config.qualifyMs = 0 →
      exec (.ocInputChange c true) s =
        .next ((s.withConn c { k with ocAsserted := true }).afterFault c .overcurrent)) ∧
    (k.state.usable = true → k.pgAsserted = true → k.ocAsserted = false → k.config.qualifyMs = 0 →
      exec (.pgInputChange c false lines) s =
        .next ((s.withConn c { k with pgAsserted := false }).afterFault c .pgLost)) ∧
    (k.state.usable = true → k.pgAsserted = true → k.ocAsserted = true → k.inrush.isSome = true →
      k.config.qualifyMs = 0 →
      exec (.pgInputChange c false lines) s =
        .next ((s.withConn c { k with pgAsserted := false }).afterFault c .overcurrent)) ∧
    (k.state.powered = true → k.inrush.isSome = true → k.ocAsserted = true →
      (k.state.usable = true → k.pgAsserted = true) → k.config.qualifyMs = 0 →
      exec (.inrushTimerExpiry c) s = .next ((s.withConn c { k with inrush := none }).afterFault c .overcurrent))

/-- R45, R46: the attention input becomes steady; ATTENTION_ARM. -/
def Obligations.AttentionIsReportedOnce : Prop :=
  ∀ (c : ConnId) (s : State),
    let k := s.conns[c]
    let reported := s.out.raise (.attention c (s.slotOf c))
    (s.resetting = none → k.attnTimer.isSome = true →
      exec (.attentionSteady c) s =
        .next
          (if k.state.usable = true ∧ k.armed = true then
            (s.withConn c { k with attnTimer := none, steady := true, armed := false }).withOut reported
          else s.withConn c { k with attnTimer := none, steady := true })) ∧
    ∀ tag slot rest, s.admissionQueue = [0x0B, tag, slot] :: rest → s.Admits tag → s.resolve slot = some c →
      exec .attentionArm s =
        .next
          ((if k.state.usable = true ∧ k.steady = true then
              (s.withConn c { k with armed := false }).withOut reported
            else s.withConn c { k with armed := true }).answered 0x0B tag .ok (.place c slot.toNat))

/-! ### Link -/

/-- R147 to R151: a DATA frame by link state, number and free places. -/
def Obligations.DataFrameIsHandled : Prop :=
  ∀ (raw : List RxByte) (n : Seq) (payload : Message) (s : State), s.resetting = none →
    receivedFrame s.link.rx raw = some (.data n payload) →
    let l := { s.link with rx := .hunting }
    exec (.dataFrame raw) s =
      .next
        (if l.state ≠ .up then
          s.withLink (if l.spacing = none then { l.erred.nakking .unsynced with spacing := some 100 } else l.erred)
        else if n = l.expected then
          if s.placesInUse < 64 then
            { s.withLink
                { l with
                  expected := l.expected + 1, ackPending := true, gapNakSent := false,
                  naks := l.naks.filter fun cause => cause == .unsynced } with
              admissionQueue := s.admissionQueue ++ [payload] }
          else s.withLink (l.nakking .hold)
        else if 1 ≤ (l.expected - n).toNat ∧ (l.expected - n).toNat ≤ 8 then
          s.withLink
            { l with
              ackPending := true
              counters := { l.counters with duplicates := min (l.counters.duplicates + 1) 65535 } }
        else
          let g := { l with counters := { l.counters with gaps := min (l.counters.gaps + 1) 65535 } }
          s.withLink (if l.gapNakSent then g else { g.nakking .gap with gapNakSent := true }))

/-- R144, R156, R157, R158, R164: ACK, NAK(GAP) and NAK(HOLD). That the reset of an acknowledged RESTART leaves standing
what R178 does not name is the model's choice (log entry 12). -/
def Obligations.AcknowledgementIsHandled : Prop :=
  ∀ (raw : List RxByte) (n : Seq) (s : State), s.resetting = none →
    let l := { s.link with rx := .hunting }
    let k := (n - l.oldest).toNat
    let taken := fun (cause : Link → Link) =>
      if l.state ≠ .up ∨ l.replay.length < k then s.withLink l.erred
      else
        let left := l.acked k s.control.replayTimeout
        if (l.replay.take k).any (fun f => f.restartOk) then (s.withLink left).restarted else s.withLink (cause left)
    (receivedFrame s.link.rx raw = some (.ack n) → exec (.ackFrame raw) s = .next (taken fun l => l)) ∧
      (receivedFrame s.link.rx raw = some (.nak .gap n) → exec (.nakGap raw) s = .next (taken Link.passed)) ∧
      (receivedFrame s.link.rx raw = some (.nak .hold n) →
        exec (.nakHold raw) s = .next (taken fun l => { l with holdPause := some 10 }))

/-- R146, R159, R164: a NAK(UNSYNCED) takes the link from UP to DOWN, where a pending RESTART takes effect, and is ignored
elsewhere, whatever its number. That the reset then leaves standing what R178 does not name is the model's choice (log
entry 12). -/
def Obligations.HostUnsyncedEntersDown : Prop :=
  ∀ (raw : List RxByte) (n : Seq) (s : State), s.resetting = none →
    receivedFrame s.link.rx raw = some (.nak .unsynced n) →
    let l := { s.link with rx := .hunting }
    exec (.nakUnsynced raw) s =
      .next
        (if l.state = .up then
          let u := s.withLink (l.wentDown s.control.hostLossTimeout)
          if s.restartPending then u.restarted else u
        else s.withLink l)

/-- R161, R162: a SYNC in any link state; nothing outside the Link Interface changes. -/
def Obligations.SyncRenumbersTheLink : Prop :=
  ∀ (raw : List RxByte) (s : State), s.resetting = none → receivedFrame s.link.rx raw = some .sync →
    let l := s.link
    exec (.sync raw) s =
      .next
        (s.withLink
          { l with
            rx := .hunting
            state := .up
            syncAck := some ⟨l.expected, l.replay.length⟩
            expected := 0
            next := BitVec.ofNat 6 l.replay.length
            replay := l.replay.zipIdx.map fun (f, i) => { f with number := BitVec.ofNat 6 i, marked := true }
            naks := []
            ackPending := false
            gapNakSent := false
            replayCount := 0
            holdPause := none
            spacing := none
            hostLoss := none
            replayTimer := if l.replay = [] then none else some s.control.replayTimeout
            counters :=
              if l.replay = [] then l.counters
              else { l.counters with replays := min (l.counters.replays + 1) 65535 } })

/-- R140 to R143, R183: a discard is counted and changes nothing but frame assembly. After bytes that begin no frame and a
start byte: a length above 80, a damaged byte, a whole frame whose check differs, of no type and number the host sends or
with a payload its type does not call for, and a timeout inside the frame are discards; no other whole frame is, where the
command changes nothing, which is the model's choice (log entry 3). -/
def Obligations.DiscardsAreOnlyCounted : Prop :=
  ∀ (raw : List RxByte) (s : State), s.resetting = none →
    let after :=
      s.withLink
        { s.link with
          rx := .hunting
          counters := { s.link.counters with formatDiscards := min (s.link.counters.formatDiscards + 1) 65535 } }
    (receive s.link.rx raw = some (.inr .discarded) → exec (.frameDiscard raw) s = .next after) ∧
      (∀ taken, receive s.link.rx raw = some (.inl (.inFrame taken)) → exec (.interByteTimeout raw) s = .next after) ∧
      ∀ idle : List RxByte, s.link.rx = .hunting → idle.all RxByte.idle = true →
        let begun := idle ++ [⟨0xD2, false⟩]
        (∀ control length, 80 < length.toNat → raw = begun ++ undamaged [control, length] →
          exec (.frameDiscard raw) s = .next after) ∧
        (∀ taken value, partOfFrame taken → raw = begun ++ undamaged taken ++ [⟨value, true⟩] →
          exec (.frameDiscard raw) s = .next after) ∧
        (∀ control payload checkHigh checkLow, payload.length ≤ 80 →
          raw = begun ++ undamaged (control :: BitVec.ofNat 8 payload.length :: payload ++ [checkHigh, checkLow]) →
          exec (.frameDiscard raw) s =
            .next (if isDiscarded control payload checkHigh checkLow then after else s)) ∧
        ∀ taken, partOfFrame taken → raw = begun ++ undamaged taken → exec (.interByteTimeout raw) s = .next after

/-- R146, R147, R155, R158, R160, R164: the replay timer, the HOLD pause and the NAK spacing run out. That the reset of a
pending RESTART leaves standing what R178 does not name is the model's choice (log entry 12). -/
def Obligations.LinkTimersExpire : Prop :=
  ∀ s : State, s.resetting = none →
    let l := s.link
    (l.state = .up → l.replayTimer.isSome = true →
      exec .replayTimerExpiry s =
        .next
          (let counted := { l with replayCount := l.replayCount + 1 }
          if l.replayCount + 1 < 4 then
            s.withLink { counted.passed with replayTimer := some s.control.replayTimeout }
          else
            let u := s.withLink (counted.wentDown s.control.hostLossTimeout)
            if s.restartPending then u.restarted else u)) ∧
    (l.holdPause.isSome = true → exec .holdPauseExpiry s = .next (s.withLink { l.passed with holdPause := none })) ∧
    (l.spacing.isSome = true → exec .unsyncedNakSpacingExpiry s = .next (s.withLink { l with spacing := none }))

/-- R44, R163: the host-loss action, its SLOT_STATE events in ascending connector order and then its HOST_LOSS event. -/
def Obligations.HostLossActionIsApplied : Prop :=
  ∀ s : State, s.resetting = none → s.link.state = .down → s.link.hostLoss.isSome = true →
    let u := s.withLink { s.link with hostLoss := none }
    (s.control.hostLossAction = .hold →
      exec .hostLossTimerExpiry s = .next (u.withOut (s.out.raise (.hostLoss .hold 0)))) ∧
    (s.control.hostLossAction = .powerOffAll →
      ∃ moved : ConnSet,
        (∀ c : ConnId, moved.getLsbD c.val = (s.conns[c].state.powered || s.conns[c].state == .cooldown)) ∧
          exec .hostLossTimerExpiry s =
            .next
              { u with
                conns :=
                  s.conns.map fun k =>
                    if k.state.powered then k.cut .off 0
                    else if k.state = .cooldown then k.settled .off 0
                    else k
                out :=
                  (allConns.foldl
                    (fun o c =>
                      if moved.getLsbD c.val then
                        ((if s.conns[c].state.powered then s.conns[c].sweepInto c .poweredOff o else o).raise
                          (s.moveEvent c .off .hostLoss 0))
                      else o)
                    s.out).raise (.hostLoss .powerOffAll moved) })

/-- R152, R153: the transmitter begins the first frame waiting: SYNC_ACK, the oldest NAK, an owed ACK, the oldest marked
DATA frame in UP outside a pause. That the line idles otherwise is the model's choice (log entry 10). -/
def Obligations.TransmitterTakesFirstWaiting : Prop :=
  ∀ s : State, s.resetting = none →
    let l := s.link
    (∀ a, l.syncAck = some a →
      exec .transmitNextFrame s =
        .next (s.withLink { l with syncAck := none, sending := some (syncAckFrameBytes a.expected a.renumbered) })) ∧
    (∀ cause rest, l.syncAck = none → l.naks = cause :: rest →
      exec .transmitNextFrame s =
        .next
          (s.withLink
            { l with naks := rest, ackPending := false, sending := some (nakFrameBytes cause l.expected) })) ∧
    (l.syncAck = none → l.naks = [] → l.ackPending = true →
      exec .transmitNextFrame s =
        .next (s.withLink { l with ackPending := false, sending := some (ackFrameBytes l.expected) })) ∧
    (∀ older f younger, l.syncAck = none → l.naks = [] → l.ackPending = false → l.state = .up → l.holdPause = none →
      l.replay = older ++ f :: younger → (∀ g ∈ older, g.marked = false) → f.marked = true →
      exec .transmitNextFrame s =
        .next
          (s.withLink
            { l with
              replay := older ++ { f with marked := false } :: younger
              sending := some (dataFrameBytes f.number f.payload) })) ∧
    (l.syncAck = none → l.naks = [] → l.ackPending = false →
      (l.state ≠ .up ∨ l.holdPause.isSome = true ∨ ∀ f ∈ l.replay, f.marked = false) →
      exec .transmitNextFrame s = .next (s.withLink { l with sending := none }))

/-- R131 to R134, R154, R184, R186, R187: the frame scheduler's choice and what one framing does; the bytes of every
response and of every event. -/
def Obligations.SchedulerFramesOneMessage : Prop :=
  (∀ r : Response,
    r.encode.map BitVec.toNat = [128, r.tag.toNat, r.code.toNat, statusNumber r.status] ++ bodyNumbers r.body) ∧
  (∀ e : Event, e.encode.map BitVec.toNat = eventNumbers e) ∧
  ∀ s : State, s.resetting = none →
    let o := s.out
    let l := s.link
    let framed := fun (payload : Message) (restartOk : Bool) =>
      { l with
        replay := l.replay ++ [{ number := l.next, payload, marked := true, restartOk }]
        next := l.next + 1
        replayTimer := if l.replay = [] then some s.control.replayTimeout else l.replayTimer }
    let room := l.state = .up ∧ l.replay.length < 8 ∧ l.holdPause = none
    (∀ r rest, room → o.responses = r :: rest → (o.events = [] ∨ o.consecutive < 4) →
      exec .frameSchedule s =
        .next
          ((s.withOut { o with responses := rest, consecutive := min (o.consecutive + 1) 4 }).withLink
            (framed r.encode (decide (r.code = 0x03 ∧ r.status = .ok))))) ∧
    (∀ e rest, room → o.events = e :: rest → (o.responses = [] ∨ o.consecutive = 4) →
      exec .frameSchedule s =
        .next
          ((s.withOut
            { o with
              events := if o.lostEvents = 0 then rest else rest ++ [.eventsLost o.lostEvents]
              lostEvents := 0
              consecutive := 0 }).withLink (framed e.encode false))) ∧
    (¬room ∨ (o.responses = [] ∧ o.events = []) → exec .frameSchedule s = .next s)

/-! ### Requests -/

/-- R164, R181: a RESTART admitted in UP waits, one admitted elsewhere takes effect at once, and the guard's expiry makes
it take effect. That the reset leaves standing what R178 does not name, and that a link UP again at admission counts as
not having left UP, are the model's choice (log entries 12, 23). -/
def Obligations.RestartWaitsOrTakesEffect : Prop :=
  ∀ s : State,
    (∀ tag rest, s.admissionQueue = [0x03, tag] :: rest → s.Admits tag →
      exec .restart s =
        .next
          (let u :=
            { s.answered 0x03 tag .ok .empty with
              restartPending := true
              control := { s.control with restartGuard := some 1000 } }
          if s.link.state = .up then u else u.restarted)) ∧
      (s.resetting = none → s.control.restartGuard.isSome = true →
        exec .restartGuardExpiry s = .next s.restarted)

/-- R52, R53 check 1, R185: a message that is no request, or has not the length its code calls for, is refused before any
other check, with its code and tag echoed. That both rows of code 0x09 refuse a SLOT_POWER_OFF with no mode is the model's
choice (log entry 15). -/
def Obligations.DecodingRefusals : Prop :=
  ∀ (m : Message) (rest : List Message) (s : State), s.resetting = none → s.admissionQueue = m :: rest →
    let code := m.headD 0xFF
    let tag := (m[1]?).getD 0xFF
    (m = [] → exec .unknownRequest s = .next (s.answered 0xFF 0xFF .badLength .empty)) ∧
    (m ≠ [] → (∀ lines, ∀ p ∈ requestCommands lines, p.1 ≠ code) →
      exec .unknownRequest s = .next (s.answered code tag .unknownRequest .empty)) ∧
    (∀ lines, ∀ p ∈ requestCommands lines, m ≠ [] → p.1 = code → lengthFits m = false →
      exec p.2 s = .next (s.answered code tag .badLength .empty))

/-- R137, R173, R175, R176: GET_STATUS and SLOT_STATUS. -/
def Obligations.StatusRequestsAreAnswered : Prop :=
  ∀ (tag : Byte) (s : State), s.Admits tag →
    (∀ flag rest, s.admissionQueue = [0x01, tag, flag] :: rest → (flag = 0x00 ∨ flag = 0x01) →
      exec .getStatus s =
        .next
          ((s.answered 0x01 tag .ok
            (.partStatus
              { linkRate := s.linkRate, strapDisabled := s.strapDisabled, resetCause := s.control.resetCause,
                poolUsed := s.poolUsed, placesInUse := s.placesInUse, eventDepth := s.out.events.length,
                lostEvents := s.out.lostEvents, linkState := s.link.state, counters := s.link.counters,
                replayTimeout := s.control.replayTimeout, hostLossTimeout := s.control.hostLossTimeout,
                hostLossAction := s.control.hostLossAction })).withLink
            { s.link with counters := if flag = 0x01 then ⟨0, 0, 0, 0, 0, 0⟩ else s.link.counters })) ∧
    (∀ slot rest c, s.admissionQueue = [0x07, tag, slot] :: rest → s.resolve slot = some c →
      exec .slotStatus s =
        .next
          (let k := s.conns[c]
          s.answered 0x07 tag .ok
            (.slotStatus
              { conn := c, slot := slot.toNat, state := k.state, faultCounter := k.faultCounter,
                presAsserted := k.presAsserted, pgAsserted := k.pgAsserted, ocAsserted := k.ocAsserted,
                attnAsserted := k.attnAsserted, armed := k.armed, engine := k.engine.state, held := k.queue.length,
                waiting := k.countIn .waiting, active := k.countIn .active, backoff := k.countIn .backoff,
                nextPosting := k.postingCounter, config := k.config })))

/-- R170, R177: SET_LINK and SLOT_CONFIGURE replace all their parameters at once and touch nothing else. -/
def Obligations.SettingsAreReplacedWhole : Prop :=
  ∀ (tag : Byte) (s : State), s.Admits tag →
    (∀ low high loss selector action rest, s.admissionQueue = [0x02, tag, low, high, loss, selector] :: rest →
      5 ≤ low.toNat + 256 * high.toNat → low.toNat + 256 * high.toNat ≤ 500 →
      (selector = 0x00 ∧ action = .hold ∨ selector = 0x01 ∧ action = .powerOffAll) →
      exec .setLink s =
        .next
          { s.answered 0x02 tag .ok .empty with
            control :=
              { s.control with
                replayTimeout := low.toNat + 256 * high.toNat
                hostLossTimeout := loss.toNat
                hostLossAction := action } }) ∧
    (∀ (r : SlotConfig) slot rest c, s.admissionQueue = ([0x06, tag, slot] ++ r.encode) :: rest →
      s.resolve slot = some c → r.inRange = true →
      exec .slotConfigure s =
        .next
          ((s.withConn c { s.conns[c] with config := r }).answered 0x06 tag .ok (.place c slot.toNat)))

/-- R14, R15: SET_SLOT_MAP. -/
def Obligations.SlotMapIsReplacedOrRefused : Prop :=
  ∀ (table : Vector (Option ConnId) 8) (tag : Byte) (rest : List Message) (s : State), s.Admits tag →
    s.admissionQueue = ([0x04, tag, 8] ++ table.toList.map mapEntryByte) :: rest →
    let before := fun c => slotIn s.slotMap c
    let after := fun c => slotIn table c
    let wrong := ¬(namedIn table).Nodup ∨ ∃ c ∈ namedIn table, s.strapDisabled.getLsbD c.val = true
    let blocked := ∃ c : ConnId, before c ≠ after c ∧ s.conns[c].state.blocksMap = true
    (wrong → exec .setSlotMap s = .next (s.answered 0x04 tag .badParam .empty)) ∧
    (¬wrong → blocked → exec .setSlotMap s = .next (s.answered 0x04 tag .mapConflict .empty)) ∧
    (¬wrong → ¬blocked →
      exec .setSlotMap s =
        .next
          ({ s with
              slotMap := table
              conns :=
                Vector.ofFn fun c : ConnId =>
                  if before c ≠ 0 ∧ after c = 0 then s.conns[c].leftMap
                  else if before c = 0 ∧ after c ≠ 0 then s.conns[c].enteredMap
                  else s.conns[c]
              out :=
                allConns.foldl
                  (fun o c =>
                    if before c ≠ 0 ∧ after c = 0 then
                      o.raise
                        (.slotState
                          { conn := c, slot := before c, fromState := s.conns[c].state, toState := .unused,
                            cause := .unmapped, faultCounter := 0, transitions := 1 })
                    else if before c = 0 ∧ after c ≠ 0 then
                      o.raise
                        (.slotState
                          { conn := c, slot := after c, fromState := s.conns[c].state, toState := .empty,
                            cause := .mapped, faultCounter := 0, transitions := 1 })
                    else o)
                  s.out }.answered 0x04 tag .ok .empty))

/-- R17: GET_SLOT_MAP is answered with the table and the strap-disabled set, changes nothing, and is refused only by the
checks common to all requests. -/
def Obligations.SlotMapIsReported : Prop :=
  ∀ (m : Message) (rest : List Message) (s : State), s.resetting = none → s.admissionQueue = m :: rest →
    m.head? = some 0x05 →
    let tag := (m[1]?).getD 0xFF
    exec .getSlotMap s =
      .next
        (if m.length ≠ 2 then s.answered 0x05 tag .badLength .empty
        else
          match s.commonRefusal tag with
          | some status => s.answered 0x05 tag status .empty
          | none => s.answered 0x05 tag .ok (.slotMap s.slotMap s.strapDisabled))

/-- R39, R43: SLOT_POWER_OFF in mode ABORT by state. -/
def Obligations.PowerOffAbortByState : Prop :=
  ∀ (tag slot : Byte) (c : ConnId) (rest : List Message) (s : State), s.Admits tag →
    s.admissionQueue = [0x09, tag, slot, 0x00] :: rest → s.resolve slot = some c → s.conns[c].state ≠ .unused →
    exec .slotPowerOffAbort s =
      .next
        ((match s.conns[c].state with
          | .powering | .on | .draining => s.cutTo c .poweredOff .off .hostOff 0
          | .cooldown => s.moved c .off .hostOff 0
          | .unused | .empty | .off | .faulted => s).answeredPower c 0x09 tag slot .ok)

/-- R38, R43, R28: SLOT_POWER_ON by state. Where it begins a power-up with PG asserted the connector passes to ON at once;
from DRAINING it enters ON with the attention due and a start decision. The order of the two is the model's choice (log
entry 9). -/
def Obligations.PowerOnByState : Prop :=
  ∀ (tag slot : Byte) (c : ConnId) (lines : BusLines) (rest : List Message) (s : State), s.Admits tag →
    s.admissionQueue = [0x08, tag, slot] :: rest → s.resolve slot = some c →
    let k := s.conns[c]
    let answer := fun (t : State) (status : Status) => Host.Outcome.next (t.answeredPower c 0x08 tag slot status)
    let resumed :=
      (s.withConn c { k with state := .on }).withOut (s.out.raise (s.moveEvent c .on .hostOn k.faultCounter))
    (k.state = .off ∨ k.state = .cooldown →
      exec (.slotPowerOn lines) s =
        answer (if k.pgAsserted then (s.poweredUp c .hostOn).cameOn c lines else s.poweredUp c .hostOn) .ok) ∧
    (k.state = .draining → exec (.slotPowerOn lines) s = answer ((resumed.attended c).started c lines) .ok) ∧
    (k.state = .draining → k.engine ≠ .idle → k.engine ≠ .hung → (k.armed && k.steady) = false →
      exec (.slotPowerOn lines) s = answer resumed .ok) ∧
    (k.state = .powering ∨ k.state = .on → exec (.slotPowerOn lines) s = answer s .ok) ∧
    (k.state = .empty → exec (.slotPowerOn lines) s = answer s .slotNotReady) ∧
    (k.state = .faulted → exec (.slotPowerOn lines) s = answer s .faultLatched)

/-- R40, R43: SLOT_POWER_OFF in mode DRAIN by state. -/
def Obligations.PowerOffDrainByState : Prop :=
  ∀ (tag slot : Byte) (c : ConnId) (rest : List Message) (s : State), s.Admits tag →
    s.admissionQueue = [0x09, tag, slot, 0x01] :: rest → s.resolve slot = some c → s.conns[c].state ≠ .unused →
    let k := s.conns[c]
    exec .slotPowerOffDrain s =
      .next
        ((match k.state with
          | .on =>
            if k.queue = [] then s.cutTo c .poweredOff .off .drained 0
            else
              (s.withConn c { k with state := .draining }).withOut
                (s.out.raise (s.moveEvent c .draining .hostDrain k.faultCounter))
          | .powering => s.cutTo c .poweredOff .off .hostOff 0
          | .cooldown => s.moved c .off .hostOff 0
          | .draining | .unused | .empty | .off | .faulted => s).answeredPower c 0x09 tag slot .ok)

/-- R42, R43: SLOT_CLEAR_FAULT by state. -/
def Obligations.ClearFaultByState : Prop :=
  ∀ (tag slot : Byte) (c : ConnId) (rest : List Message) (s : State), s.Admits tag →
    s.admissionQueue = [0x0A, tag, slot] :: rest → s.resolve slot = some c →
    exec .slotClearFault s =
      .next
        ((if s.conns[c].state = .faulted then s.moved c .off .faultCleared 0 else s).answeredPower c 0x0A tag slot .ok)

/-- R53 to R57: a bus-class request is refused with the status of the first check it fails, and has no other effect; the
same of a control request or CANCEL for checks 2 to 6. -/
def Obligations.BusRequestsAreRefusedInOrder : Prop :=
  (∀ (r : BusRequest) (tag slot : Byte) (status : Status) (lines : BusLines) (rest : List Message) (s : State),
      s.resetting = none → r.data.length < 256 → s.admissionQueue = r.message tag slot :: rest →
      r.refusal s tag slot = some status →
      exec (r.command lines) s = .next (s.answered r.code tag status .empty)) ∧
    ∀ (i : Instr) (code tag : Byte) (fields : List Byte) (status : Status) (rest : List Message) (s : State),
      let m := code :: tag :: fields
      s.resetting = none → s.admissionQueue = m :: rest → takes i m = true → code ∈ knownCodes →
      (code.toNat < 0x10 ∨ code = 0x16) → lengthFits m = true → s.controlRefusal m = some status →
      exec i s = .next (s.answered code tag status .empty)

/-- R59 to R62, R64: a bus-class request admitted in POWERING becomes the youngest entry of its connector and waits. -/
def Obligations.BusRequestsWaitInPowering : Prop :=
  ∀ (r : BusRequest) (tag slot : Byte) (c : ConnId) (lines : BusLines) (rest : List Message) (s : State),
    s.resetting = none → s.admissionQueue = r.message tag slot :: rest → r.data.length < 256 →
    r.refusal s tag slot = none → s.resolve slot = some c → s.conns[c].state = .powering →
    exec (r.command lines) s =
      .next
        ((s.taken.withConn c
          { s.conns[c] with
            queue := s.conns[c].queue ++ [r.entry s.conns[c] tag slot]
            postingCounter := r.counterAfter s.conns[c] }).withOut (r.outAfter s c tag slot))

/-- R62, R64, R77 to R80, R103, R106: a bus-class request admitted joins the tail of its connector's queue, and a start
decision follows. To an empty queue in ON with an IDLE engine it starts at once: a transfer (POST_WRITE, WRITE, READ)
after the bus check, a PULSE_RESET its pulse, a CLEAR_BUS its clear; a FENCE ends OK. -/
def Obligations.BusRequestsStartOnIdleEngine : Prop :=
  ∀ (r : BusRequest) (tag slot : Byte) (c : ConnId) (lines : BusLines) (rest : List Message) (s : State),
    s.resetting = none → s.admissionQueue = r.message tag slot :: rest → r.data.length < 256 →
    r.refusal s tag slot = none → s.resolve slot = some c →
    let k := s.conns[c]
    let e := r.entry k tag slot
    let out := r.outAfter s c tag slot
    let speed := k.config.busSpeed
    let attempt : Attempt :=
      { address := r.address, writeBytes := r.data, readCount := e.readCount, speed,
        phase := if lines.sclHigh ∧ lines.sdaHigh then .start else .busCheck, lineStep := 0, sampled := [],
        completed := 0, received := [], refused := none }
    let after : Connector :=
      { k with queue := [{ e with state := .active }], postingCounter := r.counterAfter k }
    exec (r.command lines) s =
      .next
        (((s.taken.withConn c { k with queue := k.queue ++ [e], postingCounter := r.counterAfter k }).withOut
          out).started c lines) ∧
    (k.state = .on → k.engine = .idle → k.queue = [] →
      exec (r.command lines) s =
        .next
          (match r.kind with
          | .postWrite | .write | .read =>
            (s.taken.withConn c
              { after with
                engine :=
                  if lines.sclHigh ∧ lines.sdaHigh then .transferring attempt
                  else .clearing (.beforeTransfer attempt false) ⟨speed, 0, .release, 0⟩ }).withOut out
          | .pulseReset =>
            (s.taken.withConn c { after with engine := .pulsing r.count.toNat, mrst := true }).withOut out
          | .clearBus => (s.taken.withConn c { after with engine := .clearing .requested ⟨speed, 0, .release, 0⟩ }).withOut out
          | .fence => s.answered 0x13 tag .ok (.place c slot.toNat)))

/-! ### Entries and engines -/

/-- R68, R91 to R93, R96, R115, R116: the end of an entry by CANCEL and by its deadline, on any connector: one that is not
ACTIVE leaves the engine alone, one that is has its work aborted; a drain this empties completes; a CANCEL that finds no
entry. -/
def Obligations.EntriesAreWithdrawn : Prop :=
  ∀ (c : ConnId) (older younger : List Entry) (e : Entry) (tag target : Byte) (lines : BusLines)
    (rest : List Message) (s : State), s.resetting = none → s.TagsDistinct →
    let k := s.conns[c]
    let aborted : Connector :=
      match e.state, k.engine with
      | .active, .transferring a => { k with engine := .aborting a a.finishing }
      | .active, .pulsing _ => { k with engine := .idle, mrst := k.mrst && !k.state.usable }
      | .active, .clearing (.beforeTransfer a _) b => { k with engine := .clearing (.beforeTransfer a true) b }
      | _, _ => k
    let ended := fun (status : Status) =>
      ((s.withConn c { aborted with queue := older ++ younger }).withOut (s.out.afterEnd c e status [])).drained c
    (k.queue = older ++ e :: younger → e.deadline.isSome = true →
      exec (.deadlineExpiry e.tag lines) s = .next ((ended .expired).started c lines)) ∧
    (k.queue = older ++ e :: younger → s.admissionQueue = [0x16, tag, e.tag] :: rest → s.Admits tag →
      exec (.cancel lines) s =
        .next (((ended .cancelled).answered 0x16 tag .ok (.target e.tag)).started c lines)) ∧
    (s.admissionQueue = [0x16, tag, target] :: rest → s.Admits tag → target.toNat < 32 → target ∉ s.tags →
      exec (.cancel lines) s = .next (s.answered 0x16 tag .notFound (.target target)))

/-- R78, R104, R107 to R109, R115: a completed byte is counted, a received one kept, and the ACTIVE entry's count
follows. That the report stands for the line steps and readings before it that were not ticked through, and so is taken
from every phase and line step whose readings can lead to it, and that one which they rule out changes nothing, are the
model's choice (log entries 6, 3). Between reports the two lines go through the
elements by what they read: the start, the address byte, and the first byte written or the eight bits of the first byte
read, which are kept; after a byte not acknowledged, the stop; from wherever an attempt stands through the element in
progress, and from the end of each element to the next; in an abort, from the element in progress to the end of
the stop, where an acknowledgement already driven is withdrawn in its low phase only, which is the model's choice (log
entry 22). -/
def Obligations.CompletedBytesAreCounted : Prop :=
  (∀ (c : ConnId) (value : Byte) (a : Attempt) (older younger : List Entry) (e : Entry) (s : State),
    s.resetting = none →
    let k := s.conns[c]
    let n := a.completed
    let bits := (List.range 8).map fun i => value.getMsbD i
    let occurs :=
      a.refused = none ∧ n < a.writeBytes.length + a.readCount.getD 0 ∧
        (a.writeBytes.length ≤ n → a.sampled <+: bits)
    k.engine = .transferring a → k.queue = older ++ e :: younger → (∀ x ∈ older, x.state ≠ .active) →
    e.state = .active → a.sampled.length ≤ 8 →
    (¬occurs → exec (.byteCompleted c value) s = .next s) ∧
    (occurs → exec (.byteCompleted c value) s =
      .next
        (s.withConn c
          { k with
            engine :=
              .transferring
                (if n < a.writeBytes.length then
                  { a with
                    completed := n + 1, lineStep := 0, sampled := [],
                    phase :=
                      if n + 1 < a.writeBytes.length then .writeBytes
                      else if a.readCount = none then .stop
                      else .repeatedStart }
                else
                  { a with
                    completed := n + 1, lineStep := 24, sampled := [], phase := .readBytes,
                    received := a.received ++ [value] })
            queue := older ++ { e with acked := n + 1 } :: younger }))) ∧
  (∀ (a : Attempt) (readings : List BusLines), a.phase = .start → a.lineStep = 0 → a.completed = 0 → a.sampled = [] →
    (∀ r ∈ readings, r.sclHigh = true) →
    let i := readings.length
    let direct := decide (a.readCount.isSome = true ∧ a.writeBytes = [])
    let lead := BusElement.start.steps ++ (BusElement.address (addressByte a.address direct)).steps
    let after := (Engine.transferring a).run readings
    let acknowledged := ∀ r, readings[28]? = some r → r.sdaHigh = false
    let refused := lead ++ BusElement.stop.steps
    (∀ b rest, a.writeBytes = b :: rest → acknowledged → i < (lead ++ (BusElement.sent b).steps).length →
      some after.drives = (lead ++ (BusElement.sent b).steps)[i]?) ∧
    (∀ count, direct = true → a.readCount = some count → 1 ≤ count → acknowledged →
      (i < 53 → some after.drives = (lead ++ (BusElement.received (decide (count = 1))).steps)[i]?) ∧
      (53 ≤ i →
        after =
          .transferring
            { a with
              phase := .readBytes, lineStep := 23,
              sampled := (List.range 8).map fun bit => readings[31 + 3 * bit]?.any fun r => r.sdaHigh })) ∧
    (¬acknowledged →
      (i < refused.length → some after.drives = refused[i]?) ∧
      (31 ≤ i →
        after =
          .transferring { a with phase := .stop, lineStep := 2, sampled := [], refused := some .address }))) ∧
  (∀ (a : Attempt) (r : BusLines) (rest : List BusLines), a.phase = .writeBytes → a.lineStep = 26 →
    a.completed < a.writeBytes.length → a.sampled = [] →
    (r.sdaHigh = false → (Engine.transferring a).run (r :: rest) = .transferring { a with sampled := [false] }) ∧
    (r.sdaHigh = true →
      (Engine.transferring a).run [r] =
        .transferring { a with phase := .stop, lineStep := 0, sampled := [], refused := some .data })) ∧
  (∀ (a : Attempt) (e : BusElement) (readings : List BusLines), a.element = some e →
    (∀ r ∈ readings, r.sclHigh = true) →
    let i := a.lineStep + readings.length
    i < a.phase.length →
    (a.phase = .readBytes → 24 ≤ a.lineStep ∨ (a.sampled.length = a.lineStep / 3 ∧ i < 24)) →
    some ((Engine.transferring a).run readings).drives = e.steps[i]?) ∧
  (∀ (a : Attempt) (r : BusLines), (Engine.transferring a).inPlace = true → r.sclHigh = true →
    a.lineStep + 1 = a.phase.length → (a.phase = .writeAddress → a.writeBytes ≠ []) →
    (a.phase = .readAddress → a.readCount ≠ some 0) →
    let next := fun phase => { a with phase, lineStep := 0, sampled := [] }
    (Engine.transferring a).tick (some r) =
      .transferring
        (match a.phase with
        | .start => next (if a.readCount.isSome = true ∧ a.writeBytes = [] then .readAddress else .writeAddress)
        | .repeatedStart => next .readAddress
        | .writeAddress => if r.sdaHigh then { next .stop with refused := some .address } else next .writeBytes
        | .readAddress => if r.sdaHigh then { next .stop with refused := some .address } else next .readBytes
        | .writeBytes =>
          if a.sampled ≠ [] then a
          else if r.sdaHigh then { next .stop with refused := some .data }
          else { a with sampled := [false] }
        | .readBytes => next (if a.completed < a.writeBytes.length + a.readCount.getD 0 then .readBytes else .stop)
        | .stop | .busCheck => a)) ∧
  ∀ (a : Attempt) (e : BusElement) (readings : List BusLines), a.element = some e → a.lineStep < a.phase.length →
    (∀ r ∈ readings, r.sclHigh = true) →
    let finishing := match e with
      | .received last => BusElement.received (last || decide (a.lineStep ≤ 24))
      | other => other
    let course := finishing.steps.drop a.lineStep ++ (if e = .stop then [] else BusElement.stop.steps)
    let i := readings.length
    i < course.length → some ((Engine.aborting a a.finishing).run readings).drives = course[i]?

/-- R77, R82, R83, R88, R89, R96, R107, R108, R110: the outcomes of a transfer attempt. An outcome stands for the line
steps still to come before it, its stop among them, which is the model's choice (log entry 6); it is taken where the
readings already taken can lead to it, and changes nothing elsewhere (log entry 3). -/
def Obligations.AttemptOutcomesAreTaken : Prop :=
  ∀ (c : ConnId) (a : Attempt) (older younger : List Entry) (e : Entry) (lines : BusLines) (s : State),
    s.resetting = none → s.TagsDistinct →
    let k := s.conns[c]
    let n := a.completed
    let ended := fun (acked : Nat) (status : Status) (data : List Byte) =>
      (((s.withConn c { k with engine := .idle, queue := older ++ younger }).withOut
        (s.out.afterEnd c { e with acked } status data)).drained c).started c lines
    let done := a.refused = none ∧ n = a.writeBytes.length + a.readCount.getD 0
    let dataRefused := a.refused = some .data ∨ (a.refused = none ∧ n < a.writeBytes.length ∧ a.sampled = [])
    let addressRefused :=
      a.refused = some .address ∨
        (a.refused = none ∧
          (a.phase = .start ∨ a.phase = .writeAddress ∨ a.phase = .repeatedStart ∨ a.phase = .readAddress))
    k.engine = .transferring a → k.queue = older ++ e :: younger → (∀ x ∈ older, x.state ≠ .active) →
    e.state = .active → a.phase ≠ .busCheck → n ≤ a.writeBytes.length + a.readCount.getD 0 →
    (done → exec (.attemptOutcome c .done lines) s = .next (ended n .ok a.received)) ∧
    (dataRefused → exec (.attemptOutcome c .dataNak lines) s = .next (ended n .dataRefused [])) ∧
    (∀ budget used, addressRefused → e.budget = some budget → e.retriesUsed = some used → budget ≤ used →
      exec (.attemptOutcome c .addressNak lines) s = .next (ended 0 .noTarget [])) ∧
    (∀ budget used, addressRefused → e.budget = some budget → e.retriesUsed = some used → used < budget →
      exec (.attemptOutcome c .addressNak lines) s =
        .next
          ((s.withConn c
            { k with
              engine := .idle
              queue :=
                older ++
                  { e with
                    state := .backoff, acked := 0, retriesUsed := some (used + 1),
                    retryTimer := some k.config.retryIntervalMs } :: younger }).started c lines)) ∧
    (¬done → exec (.attemptOutcome c .done lines) s = .next s) ∧
    (¬dataRefused → exec (.attemptOutcome c .dataNak lines) s = .next s) ∧
    (¬addressRefused → exec (.attemptOutcome c .addressNak lines) s = .next s)

/-- R77, R84, R85, R96, R115, R117: the retry interval's end, the end of an abort, the end of a pulse. That the end of an
abort stands for the rest of the element and the stop not ticked through before it, and so is taken from every line step
of an abort, is the model's choice (log entry 6). -/
def Obligations.RetryAbortAndPulseEnd : Prop :=
  ∀ (c : ConnId) (older younger : List Entry) (e : Entry) (lines : BusLines) (s : State),
    s.resetting = none → s.TagsDistinct →
    let k := s.conns[c]
    (k.queue = older ++ e :: younger → e.state = .backoff → e.retryTimer.isSome = true →
      exec (.retryIntervalExpiry e.tag lines) s =
        .next
          ((s.withConn c
            { k with
              queue := older ++ { e with state := .waiting, retryTimer := none } :: younger }).started c lines)) ∧
    (∀ attempt finishing, k.engine = .aborting attempt finishing →
      exec (.abortEnd c lines) s = .next ((s.withConn c { k with engine := .idle }).started c lines)) ∧
    (∀ ms, k.engine = .pulsing ms → k.queue = older ++ e :: younger → (∀ x ∈ older, x.state ≠ .active) →
      e.state = .active →
      exec (.pulseTimerExpiry c lines) s =
        .next
          ((((s.withConn c
            { k with engine := .idle, mrst := k.mrst && !k.state.usable, queue := older ++ younger }).withOut
            (s.out.afterEnd c e .ok [])).drained c).started c lines))

/-- R77, R96, R105, R106, R111 to R113, R115, R116: stretch limits and the ends of bus clears, on a connector that holds
the entry at work, or, where the entry has ended, none that is ACTIVE. While the engine waits for the clock its timer
runs and it goes no further. STRETCH_LIMIT stands for the line steps up to the next such wait, and has its effect where
that wait can come before the engine's next report; BUS_CLEAR_END stands for the readings of the clear still to come.
Both are the model's choice (log entries 3, 6, 21). -/
def Obligations.StretchLimitsAndClearsEnd : Prop :=
  (∀ (e : Engine) (r : BusLines), e.tick none = e ∧
    (e.drives.waits = true → e.stretchTimer = some 25 ∧ (r.sclHigh = false → e.tick (some r) = e)) ∧
    (e.drives.waits = false → e.stretchTimer = none)) ∧
  ∀ (c : ConnId) (older younger : List Entry) (e : Entry) (a : Attempt) (data : List Bool) (after lines : BusLines)
    (success : Bool) (b : BusClear) (s : State), s.resetting = none → s.TagsDistinct →
    let k := s.conns[c]
    let working := k.queue = older ++ e :: younger ∧ (∀ x ∈ older, x.state ≠ .active) ∧ e.state = .active
    let alone := ∀ x ∈ k.queue, x.state ≠ .active
    let ended := fun (engine : Engine) (acked : Nat) (status : Status) =>
      ((s.withConn c { k with engine, queue := older ++ younger }).withOut
        (s.out.afterEnd c { e with acked } status [])).drained c
    let low : BusLines := ⟨false, false⟩
    let rests := if success then Engine.idle else Engine.hung
    let reached := ∃ readings, (k.engine.run readings).stretchTimer ≠ none
    (k.engine.inPlace = true →
      (¬reached → exec (.stretchLimit c) s = .next s) ∧
      (reached → k.engine = .transferring a → working →
        exec (.stretchLimit c) s =
          .next (ended (.clearing .afterStretch ⟨a.speed, 0, .release, 0⟩) a.completed .busStuck)) ∧
      (∀ finishing, reached → k.engine = .aborting a finishing →
        exec (.stretchLimit c) s =
          .next (s.withConn c { k with engine := .clearing .afterStretch ⟨a.speed, 0, .release, 0⟩ })) ∧
      (reached → k.engine = .clearing .requested b → working →
        exec (.stretchLimit c) s = .next ((ended .hung e.acked .busHung).started c low)) ∧
      (reached → k.engine = .clearing (.beforeTransfer a false) b → working →
        exec (.stretchLimit c) s = .next ((ended .hung 0 .busStuck).started c low)) ∧
      (∀ purpose, purpose = .afterStretch ∨ purpose = .beforeTransfer a true ∨ purpose = .requested ∧ alone →
        reached → k.engine = .clearing purpose b →
        exec (.stretchLimit c) s = .next ((s.withConn c { k with engine := .hung }).started c low))) ∧
    (k.engine = .clearing .requested b → working → b.result data after = some success →
      exec (.busClearEnd c data after lines) s =
        .next ((ended rests e.acked (if success then .ok else .busHung)).started c lines)) ∧
    (k.engine = .clearing (.beforeTransfer a false) b → working → b.result data after = some success →
      exec (.busClearEnd c data after lines) s =
        .next
          (if success then
            s.withConn c { k with engine := .transferring { a with phase := .start, lineStep := 0, sampled := [] } }
          else (ended .hung 0 .busStuck).started c lines)) ∧
    (k.engine = .clearing (.beforeTransfer a false) b → b.stage ≠ .ended true → working →
      exec (.attemptOutcome c .stuckAtStart lines) s = .next ((ended .hung 0 .busStuck).started c lines)) ∧
    (∀ purpose, purpose = .afterStretch ∨ purpose = .beforeTransfer a true ∨ purpose = .requested ∧ alone →
      k.engine = .clearing purpose b → b.result data after = some success →
      exec (.busClearEnd c data after lines) s = .next ((s.withConn c { k with engine := rests }).started c lines))
end

