-- ==== Sys2Proof/Laws/State.lean ====
section
/-! SUPPORT. One lemma for each field and each named update, so that no proof unfolds a record update. -/

namespace Sys2Proof.Machine

/-! `State.respond`: a queued response changes the Outbound Unit alone. -/

@[simp] theorem State.respond_conns (s : State) (r : Response) : (s.respond r).conns = s.conns := rfl
@[simp] theorem State.respond_slotMap (s : State) (r : Response) : (s.respond r).slotMap = s.slotMap := rfl
@[simp] theorem State.respond_strapDisabled (s : State) (r : Response) :
    (s.respond r).strapDisabled = s.strapDisabled := rfl
@[simp] theorem State.respond_linkRate (s : State) (r : Response) : (s.respond r).linkRate = s.linkRate := rfl
@[simp] theorem State.respond_admissionQueue (s : State) (r : Response) :
    (s.respond r).admissionQueue = s.admissionQueue := rfl
@[simp] theorem State.respond_restartPending (s : State) (r : Response) :
    (s.respond r).restartPending = s.restartPending := rfl
@[simp] theorem State.respond_out (s : State) (r : Response) : (s.respond r).out = s.out.respond r := rfl
@[simp] theorem State.respond_link (s : State) (r : Response) : (s.respond r).link = s.link := rfl
@[simp] theorem State.respond_control (s : State) (r : Response) : (s.respond r).control = s.control := rfl
@[simp] theorem State.respond_resetting (s : State) (r : Response) : (s.respond r).resetting = s.resetting := rfl
@[simp] theorem State.respond_ticks (s : State) (r : Response) : (s.respond r).ticks = s.ticks := rfl
@[simp] theorem State.respond_pending (s : State) (r : Response) : (s.respond r).pending = s.pending := rfl

/-! `State.raise`: a raised event changes the Outbound Unit alone. -/

@[simp] theorem State.raise_conns (s : State) (e : Event) : (s.raise e).conns = s.conns := rfl
@[simp] theorem State.raise_slotMap (s : State) (e : Event) : (s.raise e).slotMap = s.slotMap := rfl
@[simp] theorem State.raise_strapDisabled (s : State) (e : Event) : (s.raise e).strapDisabled = s.strapDisabled := rfl
@[simp] theorem State.raise_linkRate (s : State) (e : Event) : (s.raise e).linkRate = s.linkRate := rfl
@[simp] theorem State.raise_admissionQueue (s : State) (e : Event) :
    (s.raise e).admissionQueue = s.admissionQueue := rfl
@[simp] theorem State.raise_restartPending (s : State) (e : Event) :
    (s.raise e).restartPending = s.restartPending := rfl
@[simp] theorem State.raise_out (s : State) (e : Event) : (s.raise e).out = s.out.raise e := rfl
@[simp] theorem State.raise_link (s : State) (e : Event) : (s.raise e).link = s.link := rfl
@[simp] theorem State.raise_control (s : State) (e : Event) : (s.raise e).control = s.control := rfl
@[simp] theorem State.raise_resetting (s : State) (e : Event) : (s.raise e).resetting = s.resetting := rfl
@[simp] theorem State.raise_ticks (s : State) (e : Event) : (s.raise e).ticks = s.ticks := rfl
@[simp] theorem State.raise_pending (s : State) (e : Event) : (s.raise e).pending = s.pending := rfl

/-! `State.putSite`: one connector and the Outbound Unit. -/

@[simp] theorem State.putSite_conns (s : State) (c : ConnId) (t : Site) :
    (s.putSite c t).conns = s.conns.set c t.conn := rfl
@[simp] theorem State.putSite_slotMap (s : State) (c : ConnId) (t : Site) : (s.putSite c t).slotMap = s.slotMap := rfl
@[simp] theorem State.putSite_strapDisabled (s : State) (c : ConnId) (t : Site) :
    (s.putSite c t).strapDisabled = s.strapDisabled := rfl
@[simp] theorem State.putSite_linkRate (s : State) (c : ConnId) (t : Site) :
    (s.putSite c t).linkRate = s.linkRate := rfl
@[simp] theorem State.putSite_admissionQueue (s : State) (c : ConnId) (t : Site) :
    (s.putSite c t).admissionQueue = s.admissionQueue := rfl
@[simp] theorem State.putSite_restartPending (s : State) (c : ConnId) (t : Site) :
    (s.putSite c t).restartPending = s.restartPending := rfl
@[simp] theorem State.putSite_out (s : State) (c : ConnId) (t : Site) : (s.putSite c t).out = t.out := rfl
@[simp] theorem State.putSite_link (s : State) (c : ConnId) (t : Site) : (s.putSite c t).link = s.link := rfl
@[simp] theorem State.putSite_control (s : State) (c : ConnId) (t : Site) : (s.putSite c t).control = s.control := rfl
@[simp] theorem State.putSite_resetting (s : State) (c : ConnId) (t : Site) :
    (s.putSite c t).resetting = s.resetting := rfl
@[simp] theorem State.putSite_ticks (s : State) (c : ConnId) (t : Site) : (s.putSite c t).ticks = s.ticks := rfl
@[simp] theorem State.putSite_pending (s : State) (c : ConnId) (t : Site) : (s.putSite c t).pending = s.pending := rfl

/-! `State.onSite`: one connector and the Outbound Unit. -/

@[simp] theorem State.onSite_conns (s : State) (c : ConnId) (f : Site → Site) :
    (s.onSite c f).conns = s.conns.set c (f (s.site c)).conn := rfl
@[simp] theorem State.onSite_slotMap (s : State) (c : ConnId) (f : Site → Site) :
    (s.onSite c f).slotMap = s.slotMap := rfl
@[simp] theorem State.onSite_strapDisabled (s : State) (c : ConnId) (f : Site → Site) :
    (s.onSite c f).strapDisabled = s.strapDisabled := rfl
@[simp] theorem State.onSite_linkRate (s : State) (c : ConnId) (f : Site → Site) :
    (s.onSite c f).linkRate = s.linkRate := rfl
@[simp] theorem State.onSite_admissionQueue (s : State) (c : ConnId) (f : Site → Site) :
    (s.onSite c f).admissionQueue = s.admissionQueue := rfl
@[simp] theorem State.onSite_restartPending (s : State) (c : ConnId) (f : Site → Site) :
    (s.onSite c f).restartPending = s.restartPending := rfl
@[simp] theorem State.onSite_out (s : State) (c : ConnId) (f : Site → Site) :
    (s.onSite c f).out = (f (s.site c)).out := rfl
@[simp] theorem State.onSite_link (s : State) (c : ConnId) (f : Site → Site) : (s.onSite c f).link = s.link := rfl
@[simp] theorem State.onSite_control (s : State) (c : ConnId) (f : Site → Site) :
    (s.onSite c f).control = s.control := rfl
@[simp] theorem State.onSite_resetting (s : State) (c : ConnId) (f : Site → Site) :
    (s.onSite c f).resetting = s.resetting := rfl
@[simp] theorem State.onSite_ticks (s : State) (c : ConnId) (f : Site → Site) : (s.onSite c f).ticks = s.ticks := rfl
@[simp] theorem State.onSite_pending (s : State) (c : ConnId) (f : Site → Site) :
    (s.onSite c f).pending = s.pending := rfl

/-! `State.withConn`: one connector. -/

@[simp] theorem State.withConn_conns (s : State) (c : ConnId) (k : Connector) :
    (s.withConn c k).conns = s.conns.set c k := rfl
@[simp] theorem State.withConn_slotMap (s : State) (c : ConnId) (k : Connector) :
    (s.withConn c k).slotMap = s.slotMap := rfl
@[simp] theorem State.withConn_strapDisabled (s : State) (c : ConnId) (k : Connector) :
    (s.withConn c k).strapDisabled = s.strapDisabled := rfl
@[simp] theorem State.withConn_linkRate (s : State) (c : ConnId) (k : Connector) :
    (s.withConn c k).linkRate = s.linkRate := rfl
@[simp] theorem State.withConn_admissionQueue (s : State) (c : ConnId) (k : Connector) :
    (s.withConn c k).admissionQueue = s.admissionQueue := rfl
@[simp] theorem State.withConn_restartPending (s : State) (c : ConnId) (k : Connector) :
    (s.withConn c k).restartPending = s.restartPending := rfl
@[simp] theorem State.withConn_out (s : State) (c : ConnId) (k : Connector) : (s.withConn c k).out = s.out := rfl
@[simp] theorem State.withConn_link (s : State) (c : ConnId) (k : Connector) : (s.withConn c k).link = s.link := rfl
@[simp] theorem State.withConn_control (s : State) (c : ConnId) (k : Connector) :
    (s.withConn c k).control = s.control := rfl
@[simp] theorem State.withConn_resetting (s : State) (c : ConnId) (k : Connector) :
    (s.withConn c k).resetting = s.resetting := rfl
@[simp] theorem State.withConn_ticks (s : State) (c : ConnId) (k : Connector) :
    (s.withConn c k).ticks = s.ticks := rfl
@[simp] theorem State.withConn_pending (s : State) (c : ConnId) (k : Connector) :
    (s.withConn c k).pending = s.pending := rfl

/-! `State.withOut`: the Outbound Unit. -/

@[simp] theorem State.withOut_conns (s : State) (o : Outbound) : (s.withOut o).conns = s.conns := rfl
@[simp] theorem State.withOut_slotMap (s : State) (o : Outbound) : (s.withOut o).slotMap = s.slotMap := rfl
@[simp] theorem State.withOut_strapDisabled (s : State) (o : Outbound) :
    (s.withOut o).strapDisabled = s.strapDisabled := rfl
@[simp] theorem State.withOut_linkRate (s : State) (o : Outbound) : (s.withOut o).linkRate = s.linkRate := rfl
@[simp] theorem State.withOut_admissionQueue (s : State) (o : Outbound) :
    (s.withOut o).admissionQueue = s.admissionQueue := rfl
@[simp] theorem State.withOut_restartPending (s : State) (o : Outbound) :
    (s.withOut o).restartPending = s.restartPending := rfl
@[simp] theorem State.withOut_out (s : State) (o : Outbound) : (s.withOut o).out = o := rfl
@[simp] theorem State.withOut_link (s : State) (o : Outbound) : (s.withOut o).link = s.link := rfl
@[simp] theorem State.withOut_control (s : State) (o : Outbound) : (s.withOut o).control = s.control := rfl
@[simp] theorem State.withOut_resetting (s : State) (o : Outbound) : (s.withOut o).resetting = s.resetting := rfl
@[simp] theorem State.withOut_ticks (s : State) (o : Outbound) : (s.withOut o).ticks = s.ticks := rfl
@[simp] theorem State.withOut_pending (s : State) (o : Outbound) : (s.withOut o).pending = s.pending := rfl

/-! `State.withLink`: the Link Interface. -/

@[simp] theorem State.withLink_conns (s : State) (l : Link) : (s.withLink l).conns = s.conns := rfl
@[simp] theorem State.withLink_slotMap (s : State) (l : Link) : (s.withLink l).slotMap = s.slotMap := rfl
@[simp] theorem State.withLink_strapDisabled (s : State) (l : Link) :
    (s.withLink l).strapDisabled = s.strapDisabled := rfl
@[simp] theorem State.withLink_linkRate (s : State) (l : Link) : (s.withLink l).linkRate = s.linkRate := rfl
@[simp] theorem State.withLink_admissionQueue (s : State) (l : Link) :
    (s.withLink l).admissionQueue = s.admissionQueue := rfl
@[simp] theorem State.withLink_restartPending (s : State) (l : Link) :
    (s.withLink l).restartPending = s.restartPending := rfl
@[simp] theorem State.withLink_out (s : State) (l : Link) : (s.withLink l).out = s.out := rfl
@[simp] theorem State.withLink_link (s : State) (l : Link) : (s.withLink l).link = l := rfl
@[simp] theorem State.withLink_control (s : State) (l : Link) : (s.withLink l).control = s.control := rfl
@[simp] theorem State.withLink_resetting (s : State) (l : Link) : (s.withLink l).resetting = s.resetting := rfl
@[simp] theorem State.withLink_ticks (s : State) (l : Link) : (s.withLink l).ticks = s.ticks := rfl
@[simp] theorem State.withLink_pending (s : State) (l : Link) : (s.withLink l).pending = s.pending := rfl

/-! `State.taken`: the head of the admission queue. -/

@[simp] theorem State.taken_conns (s : State) : (s.taken).conns = s.conns := rfl
@[simp] theorem State.taken_slotMap (s : State) : (s.taken).slotMap = s.slotMap := rfl
@[simp] theorem State.taken_strapDisabled (s : State) : (s.taken).strapDisabled = s.strapDisabled := rfl
@[simp] theorem State.taken_linkRate (s : State) : (s.taken).linkRate = s.linkRate := rfl
@[simp] theorem State.taken_admissionQueue (s : State) : (s.taken).admissionQueue = s.admissionQueue.tail := rfl
@[simp] theorem State.taken_restartPending (s : State) : (s.taken).restartPending = s.restartPending := rfl
@[simp] theorem State.taken_out (s : State) : (s.taken).out = s.out := rfl
@[simp] theorem State.taken_link (s : State) : (s.taken).link = s.link := rfl
@[simp] theorem State.taken_control (s : State) : (s.taken).control = s.control := rfl
@[simp] theorem State.taken_resetting (s : State) : (s.taken).resetting = s.resetting := rfl
@[simp] theorem State.taken_ticks (s : State) : (s.taken).ticks = s.ticks := rfl
@[simp] theorem State.taken_pending (s : State) : (s.taken).pending = s.pending := rfl

/-! `State.answered`: the head of the admission queue and one response. -/

@[simp] theorem State.answered_conns (s : State) (code tag : Byte) (status : Status) (body : ResponseBody) :
    (s.answered code tag status body).conns = s.conns := rfl
@[simp] theorem State.answered_slotMap (s : State) (code tag : Byte) (status : Status) (body : ResponseBody) :
    (s.answered code tag status body).slotMap = s.slotMap := rfl
@[simp] theorem State.answered_strapDisabled (s : State) (code tag : Byte) (status : Status) (body : ResponseBody) :
    (s.answered code tag status body).strapDisabled = s.strapDisabled := rfl
@[simp] theorem State.answered_linkRate (s : State) (code tag : Byte) (status : Status) (body : ResponseBody) :
    (s.answered code tag status body).linkRate = s.linkRate := rfl
@[simp] theorem State.answered_admissionQueue (s : State) (code tag : Byte) (status : Status) (body : ResponseBody) :
    (s.answered code tag status body).admissionQueue = s.admissionQueue.tail := rfl
@[simp] theorem State.answered_restartPending (s : State) (code tag : Byte) (status : Status) (body : ResponseBody) :
    (s.answered code tag status body).restartPending = s.restartPending := rfl
@[simp] theorem State.answered_out (s : State) (code tag : Byte) (status : Status) (body : ResponseBody) :
    (s.answered code tag status body).out = s.out.respond ⟨code, tag, status, body⟩ := rfl
@[simp] theorem State.answered_link (s : State) (code tag : Byte) (status : Status) (body : ResponseBody) :
    (s.answered code tag status body).link = s.link := rfl
@[simp] theorem State.answered_control (s : State) (code tag : Byte) (status : Status) (body : ResponseBody) :
    (s.answered code tag status body).control = s.control := rfl
@[simp] theorem State.answered_resetting (s : State) (code tag : Byte) (status : Status) (body : ResponseBody) :
    (s.answered code tag status body).resetting = s.resetting := rfl
@[simp] theorem State.answered_ticks (s : State) (code tag : Byte) (status : Status) (body : ResponseBody) :
    (s.answered code tag status body).ticks = s.ticks := rfl
@[simp] theorem State.answered_pending (s : State) (code tag : Byte) (status : Status) (body : ResponseBody) :
    (s.answered code tag status body).pending = s.pending := rfl

/-! `Site.setConn`: the connector. -/

@[simp] theorem Site.setConn_id (t : Site) (k : Connector) : (t.setConn k).id = t.id := rfl
@[simp] theorem Site.setConn_slot (t : Site) (k : Connector) : (t.setConn k).slot = t.slot := rfl
@[simp] theorem Site.setConn_conn (t : Site) (k : Connector) : (t.setConn k).conn = k := rfl
@[simp] theorem Site.setConn_out (t : Site) (k : Connector) : (t.setConn k).out = t.out := rfl

/-! `Site.raise`: an event. -/

@[simp] theorem Site.raise_id (t : Site) (e : Event) : (t.raise e).id = t.id := rfl
@[simp] theorem Site.raise_slot (t : Site) (e : Event) : (t.raise e).slot = t.slot := rfl
@[simp] theorem Site.raise_conn (t : Site) (e : Event) : (t.raise e).conn = t.conn := rfl
@[simp] theorem Site.raise_out (t : Site) (e : Event) : (t.raise e).out = t.out.raise e := rfl

/-! `Site.respond`: a response. -/

@[simp] theorem Site.respond_id (t : Site) (r : Response) : (t.respond r).id = t.id := rfl
@[simp] theorem Site.respond_slot (t : Site) (r : Response) : (t.respond r).slot = t.slot := rfl
@[simp] theorem Site.respond_conn (t : Site) (r : Response) : (t.respond r).conn = t.conn := rfl
@[simp] theorem Site.respond_out (t : Site) (r : Response) : (t.respond r).out = t.out.respond r := rfl

/-! `Site.enter`: a transition and its event. -/

@[simp] theorem Site.enter_id (t : Site) (dest : ConnState) (cause : Cause) : (t.enter dest cause).id = t.id := rfl
@[simp] theorem Site.enter_slot (t : Site) (dest : ConnState) (cause : Cause) :
    (t.enter dest cause).slot = t.slot := rfl
@[simp] theorem Site.enter_conn (t : Site) (dest : ConnState) (cause : Cause) :
    (t.enter dest cause).conn = { t.conn with state := dest } := rfl
@[simp] theorem Site.enter_out (t : Site) (dest : ConnState) (cause : Cause) :
    (t.enter dest cause).out =
      t.out.raise (.slotState ⟨t.id, t.slot, t.conn.state, dest, cause, t.conn.faultCounter, 1⟩) := rfl

/-! `Site.free`: one entry leaves the queue. -/

@[simp] theorem Site.free_id (t : Site) (tag : Byte) : (t.free tag).id = t.id := rfl
@[simp] theorem Site.free_slot (t : Site) (tag : Byte) : (t.free tag).slot = t.slot := rfl
@[simp] theorem Site.free_conn (t : Site) (tag : Byte) :
    (t.free tag).conn = { t.conn with queue := t.conn.queue.eraseP fun e => e.tag == tag } := rfl
@[simp] theorem Site.free_out (t : Site) (tag : Byte) : (t.free tag).out = t.out := rfl

/-! `Outbound.respond`: the tail of the Response Queue. -/

@[simp] theorem Outbound.respond_responses (o : Outbound) (r : Response) :
    (o.respond r).responses = o.responses ++ [r] := rfl
@[simp] theorem Outbound.respond_events (o : Outbound) (r : Response) : (o.respond r).events = o.events := rfl
@[simp] theorem Outbound.respond_lostEvents (o : Outbound) (r : Response) :
    (o.respond r).lostEvents = o.lostEvents := rfl
@[simp] theorem Outbound.respond_consecutive (o : Outbound) (r : Response) :
    (o.respond r).consecutive = o.consecutive := rfl

/-! `Connector.stopPowerTimers`: the four power timers. -/

@[simp] theorem Connector.stopPowerTimers_presAsserted (k : Connector) :
    (k.stopPowerTimers).presAsserted = k.presAsserted := rfl
@[simp] theorem Connector.stopPowerTimers_ocAsserted (k : Connector) :
    (k.stopPowerTimers).ocAsserted = k.ocAsserted := rfl
@[simp] theorem Connector.stopPowerTimers_pgAsserted (k : Connector) :
    (k.stopPowerTimers).pgAsserted = k.pgAsserted := rfl
@[simp] theorem Connector.stopPowerTimers_attnAsserted (k : Connector) :
    (k.stopPowerTimers).attnAsserted = k.attnAsserted := rfl
@[simp] theorem Connector.stopPowerTimers_pen (k : Connector) : (k.stopPowerTimers).pen = k.pen := rfl
@[simp] theorem Connector.stopPowerTimers_mrst (k : Connector) : (k.stopPowerTimers).mrst = k.mrst := rfl
@[simp] theorem Connector.stopPowerTimers_state (k : Connector) : (k.stopPowerTimers).state = k.state := rfl
@[simp] theorem Connector.stopPowerTimers_faultCounter (k : Connector) :
    (k.stopPowerTimers).faultCounter = k.faultCounter := rfl
@[simp] theorem Connector.stopPowerTimers_armed (k : Connector) : (k.stopPowerTimers).armed = k.armed := rfl
@[simp] theorem Connector.stopPowerTimers_steady (k : Connector) : (k.stopPowerTimers).steady = k.steady := rfl
@[simp] theorem Connector.stopPowerTimers_attnTimer (k : Connector) :
    (k.stopPowerTimers).attnTimer = k.attnTimer := rfl
@[simp] theorem Connector.stopPowerTimers_debounce (k : Connector) : (k.stopPowerTimers).debounce = k.debounce := rfl
@[simp] theorem Connector.stopPowerTimers_inrush (k : Connector) : (k.stopPowerTimers).inrush = none := rfl
@[simp] theorem Connector.stopPowerTimers_qualify (k : Connector) : (k.stopPowerTimers).qualify = none := rfl
@[simp] theorem Connector.stopPowerTimers_pgDeadline (k : Connector) : (k.stopPowerTimers).pgDeadline = none := rfl
@[simp] theorem Connector.stopPowerTimers_cooldown (k : Connector) : (k.stopPowerTimers).cooldown = none := rfl
@[simp] theorem Connector.stopPowerTimers_config (k : Connector) : (k.stopPowerTimers).config = k.config := rfl
@[simp] theorem Connector.stopPowerTimers_queue (k : Connector) : (k.stopPowerTimers).queue = k.queue := rfl
@[simp] theorem Connector.stopPowerTimers_postingCounter (k : Connector) :
    (k.stopPowerTimers).postingCounter = k.postingCounter := rfl
@[simp] theorem Connector.stopPowerTimers_engine (k : Connector) : (k.stopPowerTimers).engine = k.engine := rfl

/-! `Connector.settled`: a state without power. -/

@[simp] theorem Connector.settled_presAsserted (k : Connector) (dest : ConnState) (counter : Fin 2) :
    (k.settled dest counter).presAsserted = k.presAsserted := rfl
@[simp] theorem Connector.settled_ocAsserted (k : Connector) (dest : ConnState) (counter : Fin 2) :
    (k.settled dest counter).ocAsserted = k.ocAsserted := rfl
@[simp] theorem Connector.settled_pgAsserted (k : Connector) (dest : ConnState) (counter : Fin 2) :
    (k.settled dest counter).pgAsserted = k.pgAsserted := rfl
@[simp] theorem Connector.settled_attnAsserted (k : Connector) (dest : ConnState) (counter : Fin 2) :
    (k.settled dest counter).attnAsserted = k.attnAsserted := rfl
@[simp] theorem Connector.settled_pen (k : Connector) (dest : ConnState) (counter : Fin 2) :
    (k.settled dest counter).pen = k.pen := rfl
@[simp] theorem Connector.settled_mrst (k : Connector) (dest : ConnState) (counter : Fin 2) :
    (k.settled dest counter).mrst = k.mrst := rfl
@[simp] theorem Connector.settled_state (k : Connector) (dest : ConnState) (counter : Fin 2) :
    (k.settled dest counter).state = dest := rfl
@[simp] theorem Connector.settled_faultCounter (k : Connector) (dest : ConnState) (counter : Fin 2) :
    (k.settled dest counter).faultCounter = counter := rfl
@[simp] theorem Connector.settled_armed (k : Connector) (dest : ConnState) (counter : Fin 2) :
    (k.settled dest counter).armed = k.armed := rfl
@[simp] theorem Connector.settled_steady (k : Connector) (dest : ConnState) (counter : Fin 2) :
    (k.settled dest counter).steady = k.steady := rfl
@[simp] theorem Connector.settled_attnTimer (k : Connector) (dest : ConnState) (counter : Fin 2) :
    (k.settled dest counter).attnTimer = k.attnTimer := rfl
@[simp] theorem Connector.settled_debounce (k : Connector) (dest : ConnState) (counter : Fin 2) :
    (k.settled dest counter).debounce = k.debounce := rfl
@[simp] theorem Connector.settled_inrush (k : Connector) (dest : ConnState) (counter : Fin 2) :
    (k.settled dest counter).inrush = none := rfl
@[simp] theorem Connector.settled_qualify (k : Connector) (dest : ConnState) (counter : Fin 2) :
    (k.settled dest counter).qualify = none := rfl
@[simp] theorem Connector.settled_pgDeadline (k : Connector) (dest : ConnState) (counter : Fin 2) :
    (k.settled dest counter).pgDeadline = none := rfl
@[simp] theorem Connector.settled_cooldown (k : Connector) (dest : ConnState) (counter : Fin 2) :
    (k.settled dest counter).cooldown = none := rfl
@[simp] theorem Connector.settled_config (k : Connector) (dest : ConnState) (counter : Fin 2) :
    (k.settled dest counter).config = k.config := rfl
@[simp] theorem Connector.settled_queue (k : Connector) (dest : ConnState) (counter : Fin 2) :
    (k.settled dest counter).queue = k.queue := rfl
@[simp] theorem Connector.settled_postingCounter (k : Connector) (dest : ConnState) (counter : Fin 2) :
    (k.settled dest counter).postingCounter = k.postingCounter := rfl
@[simp] theorem Connector.settled_engine (k : Connector) (dest : ConnState) (counter : Fin 2) :
    (k.settled dest counter).engine = k.engine := rfl

/-! `Connector.cut`: a power cut. -/

@[simp] theorem Connector.cut_presAsserted (k : Connector) (dest : ConnState) (counter : Fin 2) :
    (k.cut dest counter).presAsserted = k.presAsserted := rfl
@[simp] theorem Connector.cut_ocAsserted (k : Connector) (dest : ConnState) (counter : Fin 2) :
    (k.cut dest counter).ocAsserted = k.ocAsserted := rfl
@[simp] theorem Connector.cut_pgAsserted (k : Connector) (dest : ConnState) (counter : Fin 2) :
    (k.cut dest counter).pgAsserted = k.pgAsserted := rfl
@[simp] theorem Connector.cut_attnAsserted (k : Connector) (dest : ConnState) (counter : Fin 2) :
    (k.cut dest counter).attnAsserted = k.attnAsserted := rfl
@[simp] theorem Connector.cut_pen (k : Connector) (dest : ConnState) (counter : Fin 2) :
    (k.cut dest counter).pen = false := rfl
@[simp] theorem Connector.cut_mrst (k : Connector) (dest : ConnState) (counter : Fin 2) :
    (k.cut dest counter).mrst = true := rfl
@[simp] theorem Connector.cut_state (k : Connector) (dest : ConnState) (counter : Fin 2) :
    (k.cut dest counter).state = dest := rfl
@[simp] theorem Connector.cut_faultCounter (k : Connector) (dest : ConnState) (counter : Fin 2) :
    (k.cut dest counter).faultCounter = counter := rfl
@[simp] theorem Connector.cut_armed (k : Connector) (dest : ConnState) (counter : Fin 2) :
    (k.cut dest counter).armed = k.armed := rfl
@[simp] theorem Connector.cut_steady (k : Connector) (dest : ConnState) (counter : Fin 2) :
    (k.cut dest counter).steady = k.steady := rfl
@[simp] theorem Connector.cut_attnTimer (k : Connector) (dest : ConnState) (counter : Fin 2) :
    (k.cut dest counter).attnTimer = k.attnTimer := rfl
@[simp] theorem Connector.cut_debounce (k : Connector) (dest : ConnState) (counter : Fin 2) :
    (k.cut dest counter).debounce = k.debounce := rfl
@[simp] theorem Connector.cut_inrush (k : Connector) (dest : ConnState) (counter : Fin 2) :
    (k.cut dest counter).inrush = none := rfl
@[simp] theorem Connector.cut_qualify (k : Connector) (dest : ConnState) (counter : Fin 2) :
    (k.cut dest counter).qualify = none := rfl
@[simp] theorem Connector.cut_pgDeadline (k : Connector) (dest : ConnState) (counter : Fin 2) :
    (k.cut dest counter).pgDeadline = none := rfl
@[simp] theorem Connector.cut_cooldown (k : Connector) (dest : ConnState) (counter : Fin 2) :
    (k.cut dest counter).cooldown = none := rfl
@[simp] theorem Connector.cut_config (k : Connector) (dest : ConnState) (counter : Fin 2) :
    (k.cut dest counter).config = k.config := rfl
@[simp] theorem Connector.cut_queue (k : Connector) (dest : ConnState) (counter : Fin 2) :
    (k.cut dest counter).queue = [] := rfl
@[simp] theorem Connector.cut_postingCounter (k : Connector) (dest : ConnState) (counter : Fin 2) :
    (k.cut dest counter).postingCounter = k.postingCounter := rfl
@[simp] theorem Connector.cut_engine (k : Connector) (dest : ConnState) (counter : Fin 2) :
    (k.cut dest counter).engine = .off := rfl

/-! `Link.withdrawNaks`: pending NAKs. -/

@[simp] theorem Link.withdrawNaks_state (l : Link) : (l.withdrawNaks).state = l.state := rfl
@[simp] theorem Link.withdrawNaks_rx (l : Link) : (l.withdrawNaks).rx = l.rx := rfl
@[simp] theorem Link.withdrawNaks_expected (l : Link) : (l.withdrawNaks).expected = l.expected := rfl
@[simp] theorem Link.withdrawNaks_ackPending (l : Link) : (l.withdrawNaks).ackPending = l.ackPending := rfl
@[simp] theorem Link.withdrawNaks_gapNakSent (l : Link) : (l.withdrawNaks).gapNakSent = l.gapNakSent := rfl
@[simp] theorem Link.withdrawNaks_spacing (l : Link) : (l.withdrawNaks).spacing = l.spacing := rfl
@[simp] theorem Link.withdrawNaks_next (l : Link) : (l.withdrawNaks).next = l.next := rfl
@[simp] theorem Link.withdrawNaks_replay (l : Link) : (l.withdrawNaks).replay = l.replay := rfl
@[simp] theorem Link.withdrawNaks_syncAck (l : Link) : (l.withdrawNaks).syncAck = l.syncAck := rfl
@[simp] theorem Link.withdrawNaks_naks (l : Link) :
    (l.withdrawNaks).naks = l.naks.filter fun cause => cause == .unsynced := rfl
@[simp] theorem Link.withdrawNaks_replayTimer (l : Link) : (l.withdrawNaks).replayTimer = l.replayTimer := rfl
@[simp] theorem Link.withdrawNaks_replayCount (l : Link) : (l.withdrawNaks).replayCount = l.replayCount := rfl
@[simp] theorem Link.withdrawNaks_holdPause (l : Link) : (l.withdrawNaks).holdPause = l.holdPause := rfl
@[simp] theorem Link.withdrawNaks_hostLoss (l : Link) : (l.withdrawNaks).hostLoss = l.hostLoss := rfl
@[simp] theorem Link.withdrawNaks_sending (l : Link) : (l.withdrawNaks).sending = l.sending := rfl
@[simp] theorem Link.withdrawNaks_counters (l : Link) : (l.withdrawNaks).counters = l.counters := rfl

/-! `Link.protocolError`: one counter. -/

@[simp] theorem Link.protocolError_state (l : Link) : (l.protocolError).state = l.state := rfl
@[simp] theorem Link.protocolError_rx (l : Link) : (l.protocolError).rx = l.rx := rfl
@[simp] theorem Link.protocolError_expected (l : Link) : (l.protocolError).expected = l.expected := rfl
@[simp] theorem Link.protocolError_ackPending (l : Link) : (l.protocolError).ackPending = l.ackPending := rfl
@[simp] theorem Link.protocolError_gapNakSent (l : Link) : (l.protocolError).gapNakSent = l.gapNakSent := rfl
@[simp] theorem Link.protocolError_spacing (l : Link) : (l.protocolError).spacing = l.spacing := rfl
@[simp] theorem Link.protocolError_next (l : Link) : (l.protocolError).next = l.next := rfl
@[simp] theorem Link.protocolError_replay (l : Link) : (l.protocolError).replay = l.replay := rfl
@[simp] theorem Link.protocolError_syncAck (l : Link) : (l.protocolError).syncAck = l.syncAck := rfl
@[simp] theorem Link.protocolError_naks (l : Link) : (l.protocolError).naks = l.naks := rfl
@[simp] theorem Link.protocolError_replayTimer (l : Link) : (l.protocolError).replayTimer = l.replayTimer := rfl
@[simp] theorem Link.protocolError_replayCount (l : Link) : (l.protocolError).replayCount = l.replayCount := rfl
@[simp] theorem Link.protocolError_holdPause (l : Link) : (l.protocolError).holdPause = l.holdPause := rfl
@[simp] theorem Link.protocolError_hostLoss (l : Link) : (l.protocolError).hostLoss = l.hostLoss := rfl
@[simp] theorem Link.protocolError_sending (l : Link) : (l.protocolError).sending = l.sending := rfl
@[simp] theorem Link.protocolError_counters (l : Link) :
    (l.protocolError).counters = l.counters.addProtocolError := rfl

/-! `Link.accept`: an acceptance. -/

@[simp] theorem Link.accept_state (l : Link) : (l.accept).state = l.state := rfl
@[simp] theorem Link.accept_rx (l : Link) : (l.accept).rx = l.rx := rfl
@[simp] theorem Link.accept_expected (l : Link) : (l.accept).expected = l.expected + 1 := rfl
@[simp] theorem Link.accept_ackPending (l : Link) : (l.accept).ackPending = true := rfl
@[simp] theorem Link.accept_gapNakSent (l : Link) : (l.accept).gapNakSent = false := rfl
@[simp] theorem Link.accept_spacing (l : Link) : (l.accept).spacing = l.spacing := rfl
@[simp] theorem Link.accept_next (l : Link) : (l.accept).next = l.next := rfl
@[simp] theorem Link.accept_replay (l : Link) : (l.accept).replay = l.replay := rfl
@[simp] theorem Link.accept_syncAck (l : Link) : (l.accept).syncAck = l.syncAck := rfl
@[simp] theorem Link.accept_naks (l : Link) : (l.accept).naks = l.naks.filter fun cause => cause == .unsynced := rfl
@[simp] theorem Link.accept_replayTimer (l : Link) : (l.accept).replayTimer = l.replayTimer := rfl
@[simp] theorem Link.accept_replayCount (l : Link) : (l.accept).replayCount = l.replayCount := rfl
@[simp] theorem Link.accept_holdPause (l : Link) : (l.accept).holdPause = l.holdPause := rfl
@[simp] theorem Link.accept_hostLoss (l : Link) : (l.accept).hostLoss = l.hostLoss := rfl
@[simp] theorem Link.accept_sending (l : Link) : (l.accept).sending = l.sending := rfl
@[simp] theorem Link.accept_counters (l : Link) : (l.accept).counters = l.counters := rfl

/-! `Link.duplicate`: a duplicate. -/

@[simp] theorem Link.duplicate_state (l : Link) : (l.duplicate).state = l.state := rfl
@[simp] theorem Link.duplicate_rx (l : Link) : (l.duplicate).rx = l.rx := rfl
@[simp] theorem Link.duplicate_expected (l : Link) : (l.duplicate).expected = l.expected := rfl
@[simp] theorem Link.duplicate_ackPending (l : Link) : (l.duplicate).ackPending = true := rfl
@[simp] theorem Link.duplicate_gapNakSent (l : Link) : (l.duplicate).gapNakSent = l.gapNakSent := rfl
@[simp] theorem Link.duplicate_spacing (l : Link) : (l.duplicate).spacing = l.spacing := rfl
@[simp] theorem Link.duplicate_next (l : Link) : (l.duplicate).next = l.next := rfl
@[simp] theorem Link.duplicate_replay (l : Link) : (l.duplicate).replay = l.replay := rfl
@[simp] theorem Link.duplicate_syncAck (l : Link) : (l.duplicate).syncAck = l.syncAck := rfl
@[simp] theorem Link.duplicate_naks (l : Link) : (l.duplicate).naks = l.naks := rfl
@[simp] theorem Link.duplicate_replayTimer (l : Link) : (l.duplicate).replayTimer = l.replayTimer := rfl
@[simp] theorem Link.duplicate_replayCount (l : Link) : (l.duplicate).replayCount = l.replayCount := rfl
@[simp] theorem Link.duplicate_holdPause (l : Link) : (l.duplicate).holdPause = l.holdPause := rfl
@[simp] theorem Link.duplicate_hostLoss (l : Link) : (l.duplicate).hostLoss = l.hostLoss := rfl
@[simp] theorem Link.duplicate_sending (l : Link) : (l.duplicate).sending = l.sending := rfl
@[simp] theorem Link.duplicate_counters (l : Link) : (l.duplicate).counters = l.counters.addDuplicate := rfl

/-! `Link.pause`: the HOLD pause. -/

@[simp] theorem Link.pause_state (l : Link) : (l.pause).state = l.state := rfl
@[simp] theorem Link.pause_rx (l : Link) : (l.pause).rx = l.rx := rfl
@[simp] theorem Link.pause_expected (l : Link) : (l.pause).expected = l.expected := rfl
@[simp] theorem Link.pause_ackPending (l : Link) : (l.pause).ackPending = l.ackPending := rfl
@[simp] theorem Link.pause_gapNakSent (l : Link) : (l.pause).gapNakSent = l.gapNakSent := rfl
@[simp] theorem Link.pause_spacing (l : Link) : (l.pause).spacing = l.spacing := rfl
@[simp] theorem Link.pause_next (l : Link) : (l.pause).next = l.next := rfl
@[simp] theorem Link.pause_replay (l : Link) : (l.pause).replay = l.replay := rfl
@[simp] theorem Link.pause_syncAck (l : Link) : (l.pause).syncAck = l.syncAck := rfl
@[simp] theorem Link.pause_naks (l : Link) : (l.pause).naks = l.naks := rfl
@[simp] theorem Link.pause_replayTimer (l : Link) : (l.pause).replayTimer = l.replayTimer := rfl
@[simp] theorem Link.pause_replayCount (l : Link) : (l.pause).replayCount = l.replayCount := rfl
@[simp] theorem Link.pause_holdPause (l : Link) : (l.pause).holdPause = some Config.holdPauseMs := rfl
@[simp] theorem Link.pause_hostLoss (l : Link) : (l.pause).hostLoss = l.hostLoss := rfl
@[simp] theorem Link.pause_sending (l : Link) : (l.pause).sending = l.sending := rfl
@[simp] theorem Link.pause_counters (l : Link) : (l.pause).counters = l.counters := rfl

/-! `State.tickWith`: a tick of every engine. -/

@[simp] theorem State.tickWith_conns (s : State) (reading : ConnId → Option BusLines) :
    (s.tickWith reading).conns =
      Vector.ofFn fun c => { s.conns[c] with engine := s.conns[c].engine.tick (reading c) } := rfl
@[simp] theorem State.tickWith_slotMap (s : State) (reading : ConnId → Option BusLines) :
    (s.tickWith reading).slotMap = s.slotMap := rfl
@[simp] theorem State.tickWith_strapDisabled (s : State) (reading : ConnId → Option BusLines) :
    (s.tickWith reading).strapDisabled = s.strapDisabled := rfl
@[simp] theorem State.tickWith_linkRate (s : State) (reading : ConnId → Option BusLines) :
    (s.tickWith reading).linkRate = s.linkRate := rfl
@[simp] theorem State.tickWith_admissionQueue (s : State) (reading : ConnId → Option BusLines) :
    (s.tickWith reading).admissionQueue = s.admissionQueue := rfl
@[simp] theorem State.tickWith_restartPending (s : State) (reading : ConnId → Option BusLines) :
    (s.tickWith reading).restartPending = s.restartPending := rfl
@[simp] theorem State.tickWith_out (s : State) (reading : ConnId → Option BusLines) :
    (s.tickWith reading).out = s.out := rfl
@[simp] theorem State.tickWith_link (s : State) (reading : ConnId → Option BusLines) :
    (s.tickWith reading).link = s.link := rfl
@[simp] theorem State.tickWith_control (s : State) (reading : ConnId → Option BusLines) :
    (s.tickWith reading).control = s.control := rfl
@[simp] theorem State.tickWith_resetting (s : State) (reading : ConnId → Option BusLines) :
    (s.tickWith reading).resetting = s.resetting := rfl
@[simp] theorem State.tickWith_ticks (s : State) (reading : ConnId → Option BusLines) :
    (s.tickWith reading).ticks = s.ticks + 1 := rfl
@[simp] theorem State.tickWith_pending (s : State) (reading : ConnId → Option BusLines) :
    (s.tickWith reading).pending = s.pending := rfl

/-! `Attempt.moveOn`: the next phase. -/

@[simp] theorem Attempt.moveOn_address (a : Attempt) : (a.moveOn).address = a.address := rfl
@[simp] theorem Attempt.moveOn_writeBytes (a : Attempt) : (a.moveOn).writeBytes = a.writeBytes := rfl
@[simp] theorem Attempt.moveOn_readCount (a : Attempt) : (a.moveOn).readCount = a.readCount := rfl
@[simp] theorem Attempt.moveOn_speed (a : Attempt) : (a.moveOn).speed = a.speed := rfl
@[simp] theorem Attempt.moveOn_phase (a : Attempt) : (a.moveOn).phase = a.nextPhase := rfl
@[simp] theorem Attempt.moveOn_lineStep (a : Attempt) : (a.moveOn).lineStep = 0 := rfl
@[simp] theorem Attempt.moveOn_sampled (a : Attempt) : (a.moveOn).sampled = [] := rfl
@[simp] theorem Attempt.moveOn_completed (a : Attempt) : (a.moveOn).completed = a.completed := rfl
@[simp] theorem Attempt.moveOn_received (a : Attempt) : (a.moveOn).received = a.received := rfl
@[simp] theorem Attempt.moveOn_refused (a : Attempt) : (a.moveOn).refused = a.refused := rfl

/-! `Attempt.begun`: the start of a transfer. -/

@[simp] theorem Attempt.begun_address (a : Attempt) : (a.begun).address = a.address := rfl
@[simp] theorem Attempt.begun_writeBytes (a : Attempt) : (a.begun).writeBytes = a.writeBytes := rfl
@[simp] theorem Attempt.begun_readCount (a : Attempt) : (a.begun).readCount = a.readCount := rfl
@[simp] theorem Attempt.begun_speed (a : Attempt) : (a.begun).speed = a.speed := rfl
@[simp] theorem Attempt.begun_phase (a : Attempt) : (a.begun).phase = .start := rfl
@[simp] theorem Attempt.begun_lineStep (a : Attempt) : (a.begun).lineStep = 0 := rfl
@[simp] theorem Attempt.begun_sampled (a : Attempt) : (a.begun).sampled = [] := rfl
@[simp] theorem Attempt.begun_completed (a : Attempt) : (a.begun).completed = a.completed := rfl
@[simp] theorem Attempt.begun_received (a : Attempt) : (a.begun).received = a.received := rfl
@[simp] theorem Attempt.begun_refused (a : Attempt) : (a.begun).refused = a.refused := rfl

/-! `Attempt.refuse`: a byte not acknowledged. -/

@[simp] theorem Attempt.refuse_address (a : Attempt) (byte : RefusedByte) : (a.refuse byte).address = a.address := rfl
@[simp] theorem Attempt.refuse_writeBytes (a : Attempt) (byte : RefusedByte) :
    (a.refuse byte).writeBytes = a.writeBytes := rfl
@[simp] theorem Attempt.refuse_readCount (a : Attempt) (byte : RefusedByte) :
    (a.refuse byte).readCount = a.readCount := rfl
@[simp] theorem Attempt.refuse_speed (a : Attempt) (byte : RefusedByte) : (a.refuse byte).speed = a.speed := rfl
@[simp] theorem Attempt.refuse_phase (a : Attempt) (byte : RefusedByte) : (a.refuse byte).phase = .stop := rfl
@[simp] theorem Attempt.refuse_lineStep (a : Attempt) (byte : RefusedByte) : (a.refuse byte).lineStep = 0 := rfl
@[simp] theorem Attempt.refuse_sampled (a : Attempt) (byte : RefusedByte) : (a.refuse byte).sampled = [] := rfl
@[simp] theorem Attempt.refuse_completed (a : Attempt) (byte : RefusedByte) :
    (a.refuse byte).completed = a.completed := rfl
@[simp] theorem Attempt.refuse_received (a : Attempt) (byte : RefusedByte) :
    (a.refuse byte).received = a.received := rfl
@[simp] theorem Attempt.refuse_refused (a : Attempt) (byte : RefusedByte) : (a.refuse byte).refused = some byte := rfl

/-! `BusClear.goTo`: the next stage of a clear. -/

@[simp] theorem BusClear.goTo_speed (b : BusClear) (stage : ClearStage) : (b.goTo stage).speed = b.speed := rfl
@[simp] theorem BusClear.goTo_pulses (b : BusClear) (stage : ClearStage) : (b.goTo stage).pulses = b.pulses := rfl
@[simp] theorem BusClear.goTo_stage (b : BusClear) (stage : ClearStage) : (b.goTo stage).stage = stage := rfl
@[simp] theorem BusClear.goTo_lineStep (b : BusClear) (stage : ClearStage) : (b.goTo stage).lineStep = 0 := rfl

/-! The site of a connector. -/

@[simp] theorem State.site_id (s : State) (c : ConnId) : (s.site c).id = c := rfl
@[simp] theorem State.site_slot (s : State) (c : ConnId) : (s.site c).slot = s.slotOf c := rfl
@[simp] theorem State.site_conn (s : State) (c : ConnId) : (s.site c).conn = s.conns[c] := rfl
@[simp] theorem State.site_out (s : State) (c : ConnId) : (s.site c).out = s.out := rfl

end Sys2Proof.Machine
end

