-- ==== Sys2Proof/Laws/Ops.lean ====
section
/-! SUPPORT. For each shared operation one lemma that says what it does, in the terms of Safety.lean. -/

namespace Sys2Proof.Machine

/-! ### Counters -/

/-- A saturating counter. -/
theorem bump_eq_min (limit n : Nat) : bump limit n = min (n + 1) limit := by
  unfold bump; split <;> omega

/-- A saturating counter stays in its range. -/
theorem bump_le (limit n : Nat) : bump limit n ≤ limit := by
  unfold bump; split <;> omega

/-! ### Running a command on one connector -/

/-- Outside a device reset a command acts. -/
theorem State.whenRunning_running {s : State} (hr : s.resetting = none) (f : State → State) :
    s.whenRunning f = .next (f s) := by
  simp [State.whenRunning, hr]

/-- During a device reset a command finds nothing to act on. -/
theorem State.whenRunning_resetting {s : State} (hr : s.resetting ≠ none) (f : State → State) :
    s.whenRunning f = .next s := by
  cases h : s.resetting <;> simp_all [State.whenRunning]

/-- An action of one connector's blocks, by the site it leaves. -/
theorem State.onSite_eq (s : State) (c : ConnId) (f : Site → Site) :
    s.onSite c f = (s.withConn c (f (s.site c)).conn).withOut (f (s.site c)).out := rfl

/-- Other connectors are untouched by an action of one connector's blocks (R1). -/
theorem State.onSite_conns_ne (s : State) {c d : ConnId} (f : Site → Site) (h : d ≠ c) :
    (s.onSite c f).conns[d] = s.conns[d] := by
  have hv : (c : Nat) ≠ (d : Nat) := fun e => h (Fin.ext e.symm)
  simp [State.onSite, State.putSite, Vector.getElem_set_ne _ _ hv]

/-- The connector acted on holds what its blocks left. -/
theorem State.onSite_conns_self (s : State) (c : ConnId) (f : Site → Site) :
    (s.onSite c f).conns[c] = (f (s.site c)).conn := by
  simp [State.onSite, State.putSite]

/-- A replaced connector reads as replaced. -/
@[simp] theorem State.withConn_getElem_self (s : State) (c : ConnId) (k : Connector) :
    (s.withConn c k).conns[c] = k := by
  simp [State.withConn]

/-- Replacing a connector twice is replacing it once. -/
@[simp] theorem State.withConn_withConn (s : State) (c : ConnId) (k k' : Connector) :
    (s.withConn c k).withConn c k' = s.withConn c k' := by
  simp [State.withConn]

/-- Replacing a connector by itself changes nothing. -/
@[simp] theorem State.withConn_self (s : State) (c : ConnId) : s.withConn c s.conns[c] = s := by
  simp [State.withConn]

/-- The slot that leads to a connector depends on the Slot Map alone. -/
@[simp] theorem State.slotOf_withConn (s : State) (c d : ConnId) (k : Connector) :
    (s.withConn c k).slotOf d = s.slotOf d := rfl

/-! ### Outbound Unit -/

/-- Placing an event leaves the responses. -/
@[simp] theorem Outbound.place_responses (o : Outbound) (e : Event) : (o.place e).responses = o.responses := by
  unfold Outbound.place; split <;> rfl

/-- Raising an event leaves the responses (R123). -/
@[simp] theorem Outbound.raise_responses (o : Outbound) (e : Event) : (o.raise e).responses = o.responses := by
  unfold Outbound.raise; split <;> (try split) <;> simp

/-- Raising an event leaves the consecutive-response count. -/
@[simp] theorem Outbound.raise_consecutive (o : Outbound) (e : Event) :
    (o.raise e).consecutive = o.consecutive := by
  unfold Outbound.raise Outbound.place; split <;> (try split) <;> (try split) <;> rfl

/-- The report of one end adds a response for a tracked entry and none for a posted one (R88, R89). -/
theorem Outbound.afterEnd_responses (o : Outbound) (c : ConnId) (e : Entry) (status : Status) (data : List Byte) :
    (o.afterEnd c e status data).responses =
      if e.posted then o.responses else o.responses ++ [e.finalResponse c status data] := by
  unfold Outbound.afterEnd
  cases e.posted <;> simp
  split <;> simp

/-! ### Ends, sweeps, power cuts -/

/-- Reporting an end changes the Outbound Unit alone (R87, R88, R89). -/
theorem Site.reportEnd_eq (t : Site) (e : Entry) (status : Status) (data : List Byte) :
    t.reportEnd e status data = { t with out := t.out.afterEnd t.id e status data } := by
  unfold Site.reportEnd Outbound.afterEnd
  cases e.posted <;> simp [Site.raise, Site.respond]
  split <;> rfl

/-- The reports of a list of entries, oldest first. -/
theorem Site.foldl_reportEnd (q : List Entry) (t : Site) (status : Status) :
    q.foldl (fun t e => t.reportEnd e status []) t =
      { t with out := q.foldl (fun o e => o.afterEnd t.id e status []) t.out } := by
  induction q generalizing t with
  | nil => rfl
  | cons e q ih => rw [List.foldl_cons, ih, Site.reportEnd_eq]; rfl

/-- A sweep empties the queue and reports every entry (R95). -/
theorem Site.sweep_eq (t : Site) (status : Status) :
    t.sweep status =
      { t with conn := { t.conn with queue := [] }, out := t.conn.sweepInto t.id status t.out } := by
  simp only [Site.sweep, Site.foldl_reportEnd, Site.setConn, Connector.sweepInto]

/-- A transition into a state without power (R18, R47). -/
theorem Site.settle_eq (t : Site) (dest : ConnState) (cause : Cause) (counter : Fin 2) :
    t.settle dest cause counter =
      { t with
        conn := t.conn.settled dest counter
        out := t.out.raise (.slotState ⟨t.id, t.slot, t.conn.state, dest, cause, counter, 1⟩) } := rfl

/-- A power cut with its sweep, then the transition and its event (R22). -/
theorem Site.powerCut_settle (t : Site) (status : Status) (dest : ConnState) (cause : Cause) (counter : Fin 2) :
    (t.powerCut status).settle dest cause counter =
      { t with
        conn := t.conn.cut dest counter
        out :=
          (t.conn.sweepInto t.id status t.out).raise
            (.slotState ⟨t.id, t.slot, t.conn.state, dest, cause, counter, 1⟩) } := by
  simp only [Site.powerCut, Site.sweep_eq, Site.settle_eq]
  rfl

/-- The end of one entry of a connector that is not DRAINING (R87). -/
theorem Site.endEntry_eq (t : Site) (e : Entry) (status : Status) (data : List Byte)
    (h : t.conn.state ≠ .draining) :
    t.endEntry e status data =
      { t with
        conn := { t.conn with queue := t.conn.queue.eraseP fun x => x.tag == e.tag }
        out := t.out.afterEnd t.id e status data } := by
  simp [Site.endEntry, Site.reportEnd_eq, Site.free, Site.setConn, Site.drainCheck, h]

/-- An end completes a drain, or leaves the connector as it is (R41, R96). -/
theorem Site.drainCheck_cases (t : Site) :
    (t.conn.state = .draining ∧ t.conn.queue = [] ∧
        t.drainCheck = (t.powerCut .poweredOff).settle .off .drained 0) ∨
      (¬(t.conn.state = .draining ∧ t.conn.queue = []) ∧ t.drainCheck = t) := by
  unfold Site.drainCheck
  split
  · exact .inl ⟨by tauto, by tauto, rfl⟩
  · exact .inr ⟨by tauto, rfl⟩

/-- An action that leaves the site leaves the part. -/
theorem State.onSite_self {s : State} {c : ConnId} {f : Site → Site} (h : f (s.site c) = s.site c) :
    s.onSite c f = s := by
  rw [State.onSite_eq, h]; simp [State.withOut]

/-- On the whole part, an end that can complete a drain (R41, R96). -/
theorem State.onSite_drainCheck (s : State) (c : ConnId) : s.onSite c Site.drainCheck = s.drained c := by
  obtain ⟨h1, h2, h⟩ | ⟨h1, h⟩ := Site.drainCheck_cases (s.site c)
  · have hd : s.drained c = s.cutTo c .poweredOff .off .drained 0 := if_pos ⟨h1, h2⟩
    rw [State.onSite_eq, h, Site.powerCut_settle, hd]; rfl
  · have hd : s.drained c = s := if_neg h1
    rw [State.onSite_self h, hd]

/-- On the whole part, the attention that is due (R45). -/
theorem State.onSite_attentionCheck (s : State) (c : ConnId) : s.onSite c Site.attentionCheck = s.attended c := by
  by_cases h : s.conns[c].state.usable = true ∧ s.conns[c].armed = true ∧ s.conns[c].steady = true
  · have hd : s.attended c = _ := if_pos h
    have hs : Site.attentionCheck (s.site c) = _ := if_pos h
    rw [State.onSite_eq, hs, hd]; rfl
  · have hd : s.attended c = s := if_neg h
    have hs : Site.attentionCheck (s.site c) = s.site c := if_neg h
    rw [State.onSite_self hs, hd]

/-! ### The receiver -/

/-- A hunting receiver passes over bytes that begin no frame (R141). -/
theorem receive_idle (idle rest : List RxByte) (h : idle.all RxByte.idle = true) :
    receive .hunting (idle ++ rest) = receive .hunting rest := by
  induction idle with
  | nil => rfl
  | cons b bs ih =>
    simp only [List.all_cons, Bool.and_eq_true] at h
    have hn : ¬(b.damaged = false ∧ b.value = Config.startByte) := by
      rintro ⟨hd, hv⟩
      simp [RxByte.idle, hd, hv, Config.startByte] at h
    have hb : rxByte .hunting b = .inl .hunting := if_neg hn
    simp only [List.cons_append, receive, hb]
    exact ih h.2

/-! ### Ticks -/

/-- A tick of a transfer changes its phase, its line step, what it has sampled and which byte was refused alone (R101,
R104, R107, R108). -/
theorem Attempt.tick_cases (a : Attempt) (reading : BusLines) :
    ∃ phase lineStep sampled refused, a.tick reading = { a with phase, lineStep, sampled, refused } := by
  unfold Attempt.tick
  split
  · exact ⟨_, _, _, _, rfl⟩
  · split
    · exact ⟨_, _, _, _, rfl⟩
    · split
      · unfold Attempt.sample
        split <;> (try split) <;> (try split) <;> exact ⟨_, _, _, _, rfl⟩
      · unfold Attempt.advance
        split <;> (try split) <;> exact ⟨_, _, _, _, rfl⟩

/-- A tick of an abort changes the phase, the line step and the element being finished alone (R115). -/
theorem abortTick_cases (a : Attempt) (finishing : BusElement) (reading : BusLines) :
    ∃ phase lineStep element, abortTick a finishing reading = .aborting { a with phase, lineStep } element := by
  unfold abortTick
  split <;> (try split) <;> (try split) <;> (try split) <;> exact ⟨_, _, _, rfl⟩

/-- A tick leaves every engine in its state. -/
@[simp] theorem Engine.tick_state (reading : Option BusLines) (e : Engine) : (e.tick reading).state = e.state := by
  cases e with
  | aborting a finishing =>
    cases reading with
    | none => rfl
    | some r =>
      obtain ⟨_, _, _, h⟩ := abortTick_cases a finishing r
      simp only [Engine.tick, Option.elim, h, Engine.state]
  | _ => rfl

/-- A tick begins and ends no pulse. -/
@[simp] theorem Engine.tick_isPulsing (reading : Option BusLines) (e : Engine) :
    (e.tick reading).isPulsing = e.isPulsing := by
  cases e with
  | aborting a finishing =>
    cases reading with
    | none => rfl
    | some r =>
      obtain ⟨_, _, _, h⟩ := abortTick_cases a finishing r
      simp only [Engine.tick, Option.elim, h, Engine.isPulsing]
  | _ => rfl

/-- A byte and its bits, most significant first (R104). -/
@[simp] theorem byteOfReadings_bitsOf (b : Byte) : byteOfReadings (bitsOf b) = b := by
  revert b; decide +kernel

/-- With nothing sampled yet a received byte may have any value. -/
theorem Attempt.reads_of_nothing (a : Attempt) (value : Byte) (h : a.sampled = []) : a.reads value = true := by
  simp [Attempt.reads, h]

/-- An engine without work on the bus drives neither line (R6, R114), and its stretch timer is stopped. -/
theorem Engine.drives_of_linesReleased (e : Engine) (h : e.linesReleased = true) :
    e.drives = LineStep.released ∧ e.stretchTimer = none := by
  cases e <;> first | exact ⟨rfl, rfl⟩ | cases h

/-- A tick leaves each connector its other fields. -/
@[simp] theorem State.tickWith_getElem (s : State) (reading : ConnId → Option BusLines) (c : ConnId) :
    (s.tickWith reading).conns[c] = { s.conns[c] with engine := s.conns[c].engine.tick (reading c) } := by
  simp [State.tickWith]

/-! ### Start decisions -/

/-- Nothing starts where the conditions of R75 do not hold. -/
theorem Site.startDecision_idle (t : Site) (lines : BusLines) (h : t.conn.mayStart = false) :
    t.startDecision lines = t := by
  simp [Site.startDecision, Site.decideStarts, h]

/-- Nothing starts where no entry is eligible (R76). -/
theorem Site.startDecision_none (t : Site) (lines : BusLines) (h : t.conn.chosen = none) :
    t.startDecision lines = t := by
  simp only [Site.startDecision, Site.decideStarts, h]
  split <;> rfl

/-- Nothing starts from an empty queue. -/
theorem Site.startDecision_empty (t : Site) (lines : BusLines) (h : t.conn.queue = []) :
    t.startDecision lines = t :=
  Site.startDecision_none t lines (by simp [Connector.chosen, h, chooseFrom])

/-- Changing the first entry of a kind keeps the tags. -/
theorem map_tag_updateFirst (p : Entry → Bool) (f : Entry → Entry) (hf : ∀ e, (f e).tag = e.tag) (q : List Entry) :
    (updateFirst p f q).map (fun e => e.tag) = q.map fun e => e.tag := by
  induction q with
  | nil => rfl
  | cons e q ih => simp only [updateFirst]; split <;> simp [hf, ih]

/-- Changing the first entry of a kind keeps the number of entries. -/
theorem length_updateFirst (p : Entry → Bool) (f : Entry → Entry) (q : List Entry) :
    (updateFirst p f q).length = q.length := by
  induction q with
  | nil => rfl
  | cons e q ih => simp only [updateFirst]; split <;> simp [ih]

/-! ### Admission -/

/-- Taking a message: the head one where the command accepts it, none otherwise (R51). -/
theorem State.takeMessage_cons (s : State) (accepts : Message → Bool) (finish : State → Message → State)
    (m : Message) (rest : List Message) (h : s.admissionQueue = m :: rest) (ha : accepts m = true) :
    s.takeMessage accepts finish = finish s.taken m := by
  simp [State.takeMessage, h, ha, State.taken]

/-- A message that is not the command's is left (log entry 3). -/
theorem State.takeMessage_other (s : State) (accepts : Message → Bool) (finish : State → Message → State)
    (h : ∀ m rest, s.admissionQueue = m :: rest → accepts m = false) :
    s.takeMessage accepts finish = s := by
  unfold State.takeMessage
  split
  · rename_i m rest hq; simp [h m rest hq]
  · rfl

/-- An allocated entry holds the tag. -/
theorem Connector.entryOf_isSome (k : Connector) (tag : Byte) :
    (k.entryOf tag).isSome = true ↔ tag ∈ k.queue.map fun e => e.tag := by
  simp [Connector.entryOf]

/-- Every connector is in the list of connectors. -/
theorem mem_allConns (c : ConnId) : c ∈ allConns := by revert c; decide

/-- The tags are those of the connectors' queues. -/
theorem State.mem_tags (s : State) (tag : Byte) :
    tag ∈ s.tags ↔ ∃ c : ConnId, tag ∈ s.conns[c].queue.map fun e => e.tag := by
  simp only [State.tags, List.mem_flatMap, Vector.mem_toList_iff, Vector.mem_iff_getElem]
  constructor
  · rintro ⟨k, ⟨i, hi, rfl⟩, h⟩; exact ⟨⟨i, hi⟩, h⟩
  · rintro ⟨c, h⟩; exact ⟨_, ⟨c.1, c.2, rfl⟩, h⟩

/-- Admission's view of the tag set is the set of the entries' tags (R58). -/
theorem State.tagHolder_eq_none (s : State) (tag : Byte) : s.tagHolder tag = none ↔ tag ∉ s.tags := by
  simp only [State.tagHolder, List.find?_eq_none, State.mem_tags, not_exists]
  exact ⟨fun h c hc => h c (mem_allConns c) (by simpa [Connector.entryOf_isSome] using hc),
    fun h c _ hc => h c (by simpa [Connector.entryOf_isSome] using hc)⟩

/-- The connector found for a tag holds an entry with it. -/
theorem State.tagHolder_some {s : State} {tag : Byte} {c : ConnId} (h : s.tagHolder tag = some c) :
    tag ∈ s.conns[c].queue.map fun e => e.tag := by
  have := List.find?_some h
  simpa [Connector.entryOf_isSome] using this

/-- Checks 2 to 4 pass (R53). -/
theorem State.earlyRefusal_none {s : State} {tag : Byte} (h : s.Admits tag) : s.earlyRefusal tag = none := by
  obtain ⟨-, h2, h3, h4⟩ := h
  simp [State.earlyRefusal, h3, (State.tagHolder_eq_none s tag).2 h4]
  omega

/-- Checks 2 to 4 in their order (R53). -/
theorem State.earlyRefusal_eq (s : State) (tag : Byte) : s.earlyRefusal tag = s.commonRefusal tag := by
  have h : (s.tagHolder tag).isSome = true ↔ tag ∈ s.tags := by
    rw [← not_iff_not, ← State.tagHolder_eq_none]; simp
  simp [State.earlyRefusal, State.commonRefusal, h]

end Sys2Proof.Machine
end

