-- ==== Sys2Proof/WellFormed.lean ====
section
/-! DEFINITION. The checks a command's operands satisfy when the command can be the event its row names. The machine
does not rely on them: a command that fails them finds nothing to act on (log entry 3). -/

namespace Sys2Proof

/-- A tag operand lies in 0..31 (R58). -/
def tagWellFormed (tag : Byte) : Bool := tag.toNat < 32

/-- The bytes of a link command are those of one frame of its kind, taken from hunting (R141, R144). -/
def frameWellFormed (accepts : HostFrame → Bool) (raw : List RxByte) : Bool :=
  match receivedFrame .hunting raw with
  | some f => accepts f
  | none => false

/-- The data-line readings a bus clear still makes: ten at most, the one of step 2 and one in each of nine pulses; none
from its stop on (R112). -/
def clearReadingsWellFormed (data : List Bool) : Bool := data.length ≤ Config.clearPulses + 1

/-- Well-formed commands. -/
def wellFormed : Instr → Bool
  | .dataFrame raw => frameWellFormed (fun f => match f with | .data _ _ => true | _ => false) raw
  | .ackFrame raw => frameWellFormed (fun f => match f with | .ack _ => true | _ => false) raw
  | .nakGap raw => frameWellFormed (fun f => match f with | .nak .gap _ => true | _ => false) raw
  | .nakHold raw => frameWellFormed (fun f => match f with | .nak .hold _ => true | _ => false) raw
  | .nakUnsynced raw => frameWellFormed (fun f => match f with | .nak .unsynced _ => true | _ => false) raw
  | .sync raw => frameWellFormed (fun f => match f with | .sync => true | _ => false) raw
  | .frameDiscard raw => receivedDiscard .hunting raw
  | .interByteTimeout raw => receivedPartial .hunting raw
  | .retryIntervalExpiry tag _ => tagWellFormed tag
  | .deadlineExpiry tag _ => tagWellFormed tag
  | .busClearEnd _ data _ _ => clearReadingsWellFormed data
  | .deviceResetBegin _ | .deviceResetEnd _ | .presenceInputChange _ _ | .presenceDebounceExpiry _ _
  | .ocInputChange _ _ | .pgInputChange _ _ _ | .inrushTimerExpiry _ | .qualifyTimerExpiry _ | .pgDeadlineExpiry _
  | .retryDelayExpiry _ _ | .recurrenceWindowExpiry _ | .attnInputChange _ _ | .attentionSteady _
  | .replayTimerExpiry | .holdPauseExpiry | .unsyncedNakSpacingExpiry | .hostLossTimerExpiry | .transmitNextFrame
  | .frameSchedule | .restartGuardExpiry | .unknownRequest | .getStatus | .setLink | .restart | .setSlotMap
  | .getSlotMap | .slotConfigure | .slotStatus | .slotPowerOn _ | .slotPowerOffAbort | .slotPowerOffDrain
  | .slotClearFault | .attentionArm | .postWrite _ | .write _ | .read _ | .fence _ | .pulseReset _ | .clearBus _
  | .cancel _ | .byteCompleted _ _ | .attemptOutcome _ _ _ | .stretchLimit _ | .abortEnd _ _
  | .pulseTimerExpiry _ _ => true

end Sys2Proof
end

