-- ==== Sys2Proof/Tests/Slice0.lean ====
section
/-! SUPPORT. The model's own tests: ill-formed commands, one-step tests with values taken from the manual, and, for
every statement with hypotheses, a concrete state and operands that meet them. -/

namespace Sys2Proof.Tests

set_option Elab.async false

open Sys2Proof.Machine

/-! ### Helpers -/

/-- Both bus lines read high. -/
def high : BusLines := ⟨true, true⟩

/-- Both lines low. -/
def low : BusLines := ⟨false, false⟩

/-- The state a command answers. -/
def after (i : Instr) (s : State) : State :=
  match exec i s with
  | .next t => t
  | .fault _ | .refused _ => s

/-- The bytes of a host frame as the receiver takes them. -/
def heard (f : HostFrame) : List RxByte := undamaged (hostFrameBytes f)

/-- The part after reset with a message of the host waiting in admission. -/
def asked (m : Message) (s : State) : State := { s with admissionQueue := [m] }

/-- A seated, powered, running connector. -/
def onConn : Connector :=
  { Connector.initial with
    presAsserted := true, pgAsserted := true, pen := true, mrst := false, state := .on, engine := .idle }

/-- A seated connector in POWERING. -/
def poweringConn : Connector :=
  { Connector.initial with
    presAsserted := true, pen := true, state := .powering, inrush := some 20, pgDeadline := some 100 }

/-- The part after reset with one connector given. -/
def given (c : ConnId) (k : Connector) : State := State.reset.withConn c k

/-- The part after reset with the link UP. -/
def linked (l : Link) : State := State.reset.withLink { l with state := .up }

/-- An entry with the fields of its kind at hand. -/
def entry (tag : Byte) (kind : EntryKind) (slot : Nat) (state : EntryState) : Entry where
  tag := tag
  kind := kind
  slot := slot
  address := some 0x50
  writeBytes := [0x01]
  readCount := if kind = .read then some 4 else none
  pulseMs := if kind = .pulseReset then some 9 else none
  budget := some 2
  retriesUsed := some 0
  state := state
  deadline := some 2000
  retryTimer := if state = .backoff then some 5 else none
  postingNumber := if kind = .postWrite then some 40 else none
  acked := 0

/-- The attempt of such an entry just after its `n`-th byte completed, or at its start. -/
def attempt (e : Entry) (n : Nat) : Attempt :=
  let phase : TransferPhase :=
    if n = 0 then .start
    else if n < e.writeBytes.length then .writeBytes
    else if e.readCount = none then .stop
    else if n = e.writeBytes.length then .repeatedStart
    else .readBytes
  { Attempt.ofEntry e .khz100 with phase, lineStep := if phase = .readBytes then 24 else 0, completed := n }

/-- A connector whose oldest entry is ACTIVE in a transfer with `n` bytes completed. -/
def busy (e : Entry) (n : Nat) (rest : List Entry) : Connector :=
  { onConn with queue := { e with state := .active, acked := n } :: rest, engine := .transferring (attempt e n) }

/-- Numbered frames of the replay buffer. -/
def frames (numbers : List Seq) : List ReplayFrame := numbers.map fun n => ⟨n, [0x40, 0x01], false, false⟩

/-- Tags and statuses of the queued responses. -/
def answers (s : State) : List (Byte × Status) := s.out.responses.map fun r => (r.tag, r.status)

/-- States and tags of a connector's entries. -/
def held (s : State) (c : ConnId) : List (Byte × EntryState) := s.conns[c].queue.map fun e => (e.tag, e.state)

/-! ### Ill-formed commands -/

theorem test_refuses_dataFrame : wellFormed (.dataFrame (heard (.ack 3))) = false := by decide +kernel
theorem test_refuses_ackFrame : wellFormed (.ackFrame (heard .sync)) = false := by decide +kernel
theorem test_refuses_nakGap : wellFormed (.nakGap (heard (.nak .hold 3))) = false := by decide +kernel
theorem test_refuses_nakHold : wellFormed (.nakHold (heard (.nak .gap 3))) = false := by decide +kernel
theorem test_refuses_nakUnsynced : wellFormed (.nakUnsynced (heard (.nak .gap 3))) = false := by decide +kernel
theorem test_refuses_sync : wellFormed (.sync (heard (.ack 1))) = false := by decide +kernel
theorem test_refuses_frameDiscard : wellFormed (.frameDiscard (heard .sync)) = false := by decide +kernel
theorem test_refuses_interByteTimeout : wellFormed (.interByteTimeout []) = false := by decide +kernel
theorem test_refuses_retryIntervalExpiry : wellFormed (.retryIntervalExpiry 32 high) = false := by decide +kernel
theorem test_refuses_deadlineExpiry : wellFormed (.deadlineExpiry 0xFF high) = false := by decide +kernel
theorem test_refuses_busClearEnd :
    wellFormed (.busClearEnd 0 (List.replicate 11 false) high high) = false := by decide +kernel
theorem test_accepts_wellFormed :
    wellFormed (.dataFrame (heard (.data 5 [0x05, 0x01]))) = true ∧ wellFormed (.deadlineExpiry 31 high) = true ∧
      wellFormed (.frameDiscard (undamaged [0xD2, 0x05, 0x51])) = true ∧
      wellFormed (.interByteTimeout (undamaged [0xD2])) = true := by decide +kernel

/-! ### Formats, with the manual's own bytes (chapters 7 and 9) -/

/-- The check of the generator x^16 + x^12 + x^5 + 1 from 0xFFFF over one byte 0x00, worked by hand. -/
theorem test_crc_of_zero : crc16 [0x00] = 0xE1F0 := by decide +kernel

/-- Section 9.2: an ACK carrying 31 has control byte 0x5F and length 0. -/
theorem test_ack_31 : (ackFrameBytes 31).take 3 = [0xD2, 0x5F, 0x00] := by decide +kernel

/-- Section 9.2: a NAK(HOLD) carrying 30 has control byte 0x9E, length 1 and payload 0x02. -/
theorem test_nak_hold_30 : (nakFrameBytes .hold 30).take 4 = [0xD2, 0x9E, 0x01, 0x02] := by decide +kernel

/-- Section 9.3: the READ on the line as DATA frame 5 occupies 14 bytes. -/
theorem test_read_on_the_line :
    let f := dataFrameBytes 5 [0x12, 0x0E, 0x05, 0x51, 0x01, 0x03, 0x02, 0x01, 0x20]
    f.length = 14 ∧ f.take 4 = [0xD2, 0x05, 0x09, 0x12] := by decide +kernel

/-- Section 9.3: the final response of that READ. -/
theorem test_read_response :
    Response.encode ⟨0x12, 0x0E, .ok, .readData 6 5 5 [0xAA, 0xBB, 0xCC]⟩ =
      [0x80, 0x0E, 0x12, 0x00, 0x06, 0x05, 0x05, 0xAA, 0xBB, 0xCC] := by decide +kernel

/-- Section 9.6: the defaults as bytes. -/
theorem test_default_record :
    SlotConfig.default.encode =
      [0x00, 0x01, 0x14, 0x02, 0x64, 0x00, 0x32, 0x64, 0x0A, 0x00, 0x05, 0x03, 0xD0, 0x07, 0x06] := by decide +kernel

/-- The table gives no row any bits. -/
theorem test_no_word : decodeTableWord 0 0 = none ∧ State.reset.withFetchWord 8 0x12 = State.reset := by decide +kernel

/-- R140, with the start byte of R183: 0xD2 on the line, and a break, which reads as damaged bytes. -/
theorem test_byte_on_the_line :
    byteLevels 0xD2 = [false, false, true, false, false, true, false, true, true, true] ∧
      sampleLine (byteLevels 0xD2) = [⟨0xD2, false⟩] ∧ sampleLine (List.replicate 20 false) = [⟨0, true⟩, ⟨0, true⟩] := by
  decide +kernel

/-- R104: the address byte of target 0x51 with direction read is 1010001 and 1; the data line in the high phases of its
nine periods is driven low exactly for its zero bits, and released for the acknowledgement. -/
theorem test_address_byte_signalling :
    ((BusElement.address (addressByte 0x51 true)).steps.filter fun st => !st.clockLow && !st.waits).map
        (fun st => st.dataLow) = [false, true, false, true, true, true, false, false, false] := by decide +kernel

/-- R115: a byte received while an abort is taken is not acknowledged, and the stop follows. -/
theorem test_abort_signalling :
    let a := { attempt (entry 20 .read 5 .waiting) 3 with lineStep := 10 }
    let later := fun n => ((Engine.aborting a a.finishing).run (List.replicate n high)).drives
    a.element = some (.received false) ∧ a.finishing = .received true ∧ (later 15).dataLow = false ∧
      (later 15).waits = true ∧ later 17 = ⟨true, true, false, false⟩ := by decide +kernel

/-- R104, R108: the eight readings of a byte received are its bits, most significant first. -/
theorem test_received_bits :
    let e := entry 20 .read 5 .waiting
    let a := { attempt e 1 with phase := .readBytes }
    let bits := [true, false, true, false, false, false, false, true]
    let engine := (Engine.transferring a).run (bits.flatMap fun bit => List.replicate 3 ⟨true, bit⟩)
    let s := given 4 { busy e 1 [] with engine }
    engine = .transferring { a with lineStep := 23, sampled := bits } ∧
      (after (.byteCompleted 4 0xA0) s).conns[4].engine = engine ∧
      (after (.byteCompleted 4 0xA1) s).conns[4].queue.map (fun e => e.acked) = [2] := by decide +kernel

/-- R107: an address byte that no target acknowledges is followed by the stop; nothing but ADDRESS_NAK can be reported. -/
theorem test_refused_address :
    let e := entry 10 .write 5 .waiting
    let engine := (Engine.transferring (attempt e 0)).run (List.replicate 31 high)
    let s := given 4 { busy e 0 [] with engine }
    engine = .transferring { attempt e 0 with phase := .stop, lineStep := 2, refused := some .address } ∧
      after (.byteCompleted 4 0) s = s ∧ after (.attemptOutcome 4 .dataNak high) s = s ∧ after (.stretchLimit 4) s = s ∧
      held (after (.attemptOutcome 4 .addressNak high) s) 4 = [(10, .backoff)] := by decide +kernel

/-- R105, R112: the stretch timer runs from the release of the clock until it reads high. -/
theorem test_stretch_in_clear :
    let e := Engine.clearing .requested ⟨.khz100, 0, .release, 0⟩
    e.stretchTimer = some 25 ∧ e.tick (some low) = e ∧ (e.run [high]).stretchTimer = none := by decide +kernel

/-- R112: a clear on a free bus makes no pulse, and consists of the stop and the reading after it. -/
theorem test_clear_of_free_bus :
    let e := Engine.clearing .requested ⟨.khz100, 0, .release, 0⟩
    ((List.range 7).map fun n => (e.run (List.replicate n high)).drives.clockLow) =
        [false, false, true, false, false, false, false] ∧
      e.run (List.replicate 6 high) = .clearing .requested ⟨.khz100, 0, .ended true, 0⟩ := by decide +kernel

/-! ### Device reset and supervision -/

/-- R178: power outputs deasserted, module resets asserted, entries discarded. -/
theorem test_deviceResetBegin :
    let k := (after (.deviceResetBegin .pin) (given 0 (busy (entry 1 .write 1 .waiting) 1 []))).conns[0]
    k.pen = false ∧ k.mrst = true ∧ k.queue = [] ∧ k.engine = .off := by decide +kernel

/-- Section 1.4, default numbering with connectors 2 and 5 strap-disabled; R179: power-on before pin. -/
theorem test_deviceResetEnd :
    let t := after (.deviceResetEnd ⟨2, 0x24⟩) { State.reset with resetting := some ⟨true, true, false⟩ }
    t.slotMap = #v[some 0, some 1, some 3, some 4, some 6, some 7, none, none] ∧
      t.out.events = [.started .powerOn] ∧ t.conns[5].state = .unused ∧ t.linkRate = 2 := by decide +kernel

/-- Section 10.6 at time 0: debounce to 10. -/
theorem test_presenceInputChange :
    (after (.presenceInputChange 2 true) State.reset).conns[2].debounce = some 10 := by decide +kernel

/-- Section 10.6 at time 10: one merged record, EMPTY to POWERING, AUTO_ON, count 2. -/
theorem test_presenceDebounceExpiry :
    let k : Connector :=
      { Connector.initial with
        presAsserted := true, debounce := some 10, config := { SlotConfig.default with autoPower := true } }
    let t := after (.presenceDebounceExpiry 2 high) (given 2 k)
    t.out.events = [.started .powerOn, .slotState ⟨2, 3, .empty, .powering, .autoOn, 0, 2⟩] ∧
      t.conns[2].inrush = some 20 ∧ t.conns[2].pgDeadline = some 100 := by decide +kernel

/-- Section 10.7 at 0: qualify to 2; and ignored while the inrush timer runs (section 2.12). -/
theorem test_ocInputChange :
    (after (.ocInputChange 4 true) (given 4 onConn)).conns[4].qualify = some 2 ∧
      (after (.ocInputChange 4 true) (given 4 poweringConn)).conns[4].qualify = none := by decide +kernel

/-- Section 10.6 at 42: to ON, MRST_N released, the waiting READ starts. -/
theorem test_pgInputChange :
    let t := after (.pgInputChange 2 true high) (given 2 { poweringConn with queue := [entry 7 .read 3 .waiting] })
    t.conns[2].state = .on ∧ t.conns[2].mrst = false ∧ held t 2 = [(7, .active)] := by decide +kernel

/-- R31: an OC_N asserted as the inrush timer expires makes a fault condition appear. -/
theorem test_inrushTimerExpiry :
    (after (.inrushTimerExpiry 4) (given 4 { poweringConn with ocAsserted := true })).conns[4].qualify = some 2 := by
  decide +kernel

/-- Section 10.7 at 2: the sweep's responses, COOLDOWN with counter 1, retry delay 500. -/
theorem test_qualifyTimerExpiry :
    let k := { busy (entry 20 .read 5 .waiting) 3 [entry 21 .write 5 .waiting] with ocAsserted := true, qualify := some 2 }
    let t := after (.qualifyTimerExpiry 4) (given 4 k)
    answers t = [(20, .slotFault), (21, .slotFault)] ∧ t.conns[4].cooldown = some 500 ∧
      t.out.events = [.started .powerOn, .slotState ⟨4, 5, .on, .cooldown, .overcurrent, 1, 1⟩] := by decide +kernel

/-- Section 10.7 at 802: the counter already 1 latches FAULTED. -/
theorem test_second_fault_latches :
    let k := { onConn with ocAsserted := true, qualify := some 2, faultCounter := 1, cooldown := some 1000 }
    (after (.qualifyTimerExpiry 4) (given 4 k)).out.events =
      [.started .powerOn, .slotState ⟨4, 5, .on, .faulted, .overcurrent, 1, 1⟩] := by decide +kernel

/-- Section 2.12: PG not seen by the deadline, cause PG_TIMEOUT. -/
theorem test_pgDeadlineExpiry :
    (after (.pgDeadlineExpiry 0) (given 0 poweringConn)).out.events =
      [.started .powerOn, .slotState ⟨0, 1, .powering, .cooldown, .pgTimeout, 1, 1⟩] := by decide +kernel

/-- Section 10.7 at 502: to POWERING, RETRY, counter 1. -/
theorem test_retryDelayExpiry :
    let k := { Connector.initial with presAsserted := true, state := .cooldown, faultCounter := 1, cooldown := some 500 }
    (after (.retryDelayExpiry 4 high) (given 4 k)).out.events =
      [.started .powerOn, .slotState ⟨4, 5, .cooldown, .powering, .retry, 1, 1⟩] := by decide +kernel

/-- Section 2.12 at 1540: counter to 0, no event. -/
theorem test_recurrenceWindowExpiry :
    let t := after (.recurrenceWindowExpiry 4) (given 4 { onConn with faultCounter := 1, cooldown := some 1000 })
    t.conns[4].faultCounter = 0 ∧ t.out = State.reset.out := by decide +kernel

/-- R45: assertion starts the 1 ms measure. -/
theorem test_attnInputChange :
    (after (.attnInputChange 6 true) (given 6 onConn)).conns[6].attnTimer = some 1 := by decide +kernel

/-- R45: the armed input becomes steady in ON: ATTENTION, and the flag is cleared. -/
theorem test_attentionSteady :
    let t := after (.attentionSteady 6) (given 6 { onConn with attnAsserted := true, attnTimer := some 1, armed := true })
    t.out.events = [.started .powerOn, .attention 6 7] ∧ t.conns[6].armed = false := by decide +kernel

/-! ### Link -/

/-- Section 10.8, steps 1, 4 and 10: acceptance, gap, duplicate at E 10, 11 and 13. -/
theorem test_dataFrame :
    let data := fun (n : Seq) => Instr.dataFrame (heard (.data n [0x05, 0x01]))
    let one := after (data 10) (linked { Link.initial with expected := 10 })
    let gap := after (data 12) (linked { Link.initial with expected := 11 })
    let dup := after (data 12) (linked { Link.initial with expected := 13 })
    one.link.expected = 11 ∧ one.admissionQueue = [[0x05, 0x01]] ∧ one.link.ackPending = true ∧
      gap.link.naks = [.gap] ∧ gap.link.counters.gaps = 1 ∧ gap.admissionQueue = [] ∧
      dup.link.counters.duplicates = 1 ∧ dup.link.expected = 13 := by decide +kernel

/-- Section 7.14, step 1: with all 64 places in use the frame is refused with a hold. -/
theorem test_dataFrame_hold :
    let s := linked { Link.initial with expected := 30 }
    let full := { s with out := { s.out with responses := List.replicate 64 ⟨0x01, 0, .ok, .empty⟩ } }
    let t := after (.dataFrame (heard (.data 30 [0x05, 0x01]))) full
    t.link.expected = 30 ∧ t.link.naks = [.hold] ∧ t.link.counters = LinkCounters.zero := by decide +kernel

/-- Section 7.14, step 3: an ACK carrying 13 removes frames 10, 11 and 12. -/
theorem test_ackFrame :
    let l := { Link.initial with replay := frames [10, 11, 12, 13, 14, 15, 16, 17], next := 18, replayCount := 2 }
    let t := after (.ackFrame (heard (.ack 13))) (linked l)
    t.link.replay.map (fun f => f.number) = [13, 14, 15, 16, 17] ∧ t.link.replayCount = 0 ∧
      t.link.replayTimer = some 50 := by decide +kernel

/-- R188's example: a stale ACK carrying 40 is ignored and counted. -/
theorem test_ackFrame_invalid :
    let l := { Link.initial with replay := frames [0, 1, 2, 3, 4], next := 5 }
    let t := after (.ackFrame (heard (.ack 40))) (linked l)
    t.link.replay = l.replay ∧ t.link.counters.protocolErrors = 1 := by decide +kernel

/-- R157: the number, then a resend pass. -/
theorem test_nakGap :
    let l := { Link.initial with replay := frames [10, 11, 12], next := 13 }
    let t := after (.nakGap (heard (.nak .gap 11))) (linked l)
    t.link.replay.map (fun f => (f.number, f.marked)) = [(11, true), (12, true)] ∧
      t.link.counters.replays = 1 := by decide +kernel

/-- R158: the HOLD pause of 10 ms. -/
theorem test_nakHold :
    let l := { Link.initial with replay := frames [10], next := 11 }
    (after (.nakHold (heard (.nak .hold 10))) (linked l)).link.holdPause = some 10 := by decide +kernel

/-- R159 and R146: UP to DOWN, counted; no frame leaves. -/
theorem test_nakUnsynced :
    let l := { Link.initial with replay := frames [10], next := 11 }
    let t := after (.nakUnsynced (heard (.nak .unsynced 10))) (linked l)
    t.link.state = .down ∧ t.link.counters.linkDowns = 1 ∧ t.link.replay = l.replay := by decide +kernel

/-- Section 7.15 at 3000: SYNC_ACK of 18 and 5; frames 38 to 42 become 0 to 4; T becomes 5. -/
theorem test_sync :
    let l := { Link.initial with state := .down, expected := 18, replay := frames [38, 39, 40, 41, 42], next := 43 }
    let t := after (.sync (heard .sync)) (State.reset.withLink l)
    t.link.syncAck = some ⟨18, 5⟩ ∧ t.link.replay.map (fun f => f.number) = [0, 1, 2, 3, 4] ∧ t.link.next = 5 ∧
      t.link.counters.replays = 1 ∧ t.link.state = .up := by decide +kernel

/-- R143: a length above 80 discards; a damaged byte inside a frame discards. -/
theorem test_frameDiscard :
    (after (.frameDiscard (undamaged [0xD2, 0x05, 81])) State.reset).link.counters.formatDiscards = 1 ∧
      (after (.frameDiscard [⟨0xD2, false⟩, ⟨0x05, true⟩]) State.reset).link.counters.formatDiscards = 1 := by
  decide +kernel

/-- R141, R143: a pause inside a frame discards it. -/
theorem test_interByteTimeout :
    (after (.interByteTimeout (undamaged [0xD2, 0x05])) State.reset).link.counters.formatDiscards = 1 := by decide +kernel

/-- Section 7.15 at 150 and 200: count 3 and a pass; count 4 and DOWN with the host-loss timer to 5 s. -/
theorem test_replayTimerExpiry :
    let l := { Link.initial with replay := frames [38], next := 39, replayTimer := some 50, replayCount := 2 }
    let set := fun (s : State) => { s with control := { s.control with hostLossTimeout := 5 } }
    let three := after .replayTimerExpiry (set (linked l))
    let four := after .replayTimerExpiry (set (linked { l with replayCount := 3 }))
    three.link.state = .up ∧ three.link.replayCount = 3 ∧ three.link.counters.replays = 1 ∧
      four.link.state = .down ∧ four.link.hostLoss = some 5000 ∧ four.link.counters.linkDowns = 1 := by decide +kernel

/-- R158: the pause ends with a resend pass. -/
theorem test_holdPauseExpiry :
    let l := { Link.initial with replay := frames [10], next := 11, holdPause := some 10 }
    let t := after .holdPauseExpiry (linked l)
    t.link.holdPause = none ∧ t.link.replay.map (fun f => f.marked) = [true] := by decide +kernel

/-- R147: after the spacing a NAK(UNSYNCED) may be made pending again. -/
theorem test_unsyncedNakSpacingExpiry :
    (after .unsyncedNakSpacingExpiry (State.reset.withLink { Link.initial with spacing := some 100 })).link.spacing =
      none := by decide +kernel

/-- R44: POWER_OFF_ALL takes ON and COOLDOWN to OFF and names them in HOST_LOSS. -/
theorem test_hostLossTimerExpiry :
    let s := (given 0 onConn).withConn 3 { Connector.initial with state := .cooldown, faultCounter := 1 }
    let s := { s.withLink { Link.initial with state := .down, hostLoss := some 2000 } with
      control := { s.control with hostLossAction := .powerOffAll } }
    (after .hostLossTimerExpiry s).out.events =
      [.started .powerOn, .slotState ⟨0, 1, .on, .off, .hostLoss, 0, 1⟩,
       .slotState ⟨3, 4, .cooldown, .off, .hostLoss, 0, 1⟩, .hostLoss .powerOffAll 0x09] := by decide +kernel

/-- R153: a SYNC_ACK goes before everything else; its frame starts 0xD2, 0xC2, 0x02 (R183). -/
theorem test_transmitNextFrame :
    let t := after .transmitNextFrame (linked { Link.initial with syncAck := some ⟨18, 5⟩, ackPending := true })
    t.link.sending.map (fun f => f.take 5) = some [0xD2, 0xC2, 0x02, 18, 5] ∧ t.link.ackPending = true := by
  decide +kernel

/-- Section 6.12, frame 5: both waiting and count 4, the event is framed. -/
theorem test_frameSchedule :
    let s := linked Link.initial
    let s := s.withOut { s.out with responses := [⟨0x01, 3, .ok, .empty⟩], consecutive := 4 }
    let t := after .frameSchedule s
    t.out.events = [] ∧ t.out.responses.length = 1 ∧ t.out.consecutive = 0 ∧
      t.link.replay.map (fun f => f.payload) = [[0x40, 0x01]] := by decide +kernel

/-- Section 6.11, step 7: the freed place is taken at once by EVENTS_LOST, count 2. -/
theorem test_frameSchedule_eventsLost :
    let s := linked Link.initial
    let t := after .frameSchedule (s.withOut { s.out with lostEvents := 2 })
    t.out.events = [.eventsLost 2] ∧ t.out.lostEvents = 0 := by decide +kernel

/-- R164: the guard's expiry makes the restart take effect. -/
theorem test_restartGuardExpiry :
    let s := linked Link.initial
    (after .restartGuardExpiry { s with restartPending := true, control := { s.control with restartGuard := some 1000 } }).resetting =
      some ⟨false, false, true⟩ := by decide +kernel

/-! ### Requests -/

/-- R52: a code that is no request's. -/
theorem test_unknownRequest :
    (after .unknownRequest (asked [0x7A, 0x05] State.reset)).out.responses = [⟨0x7A, 0x05, .unknownRequest, .empty⟩] := by
  decide +kernel

/-- Section 9.6: the part status after a power-on reset, its own place counted (R137). -/
theorem test_getStatus :
    (after .getStatus (asked [0x01, 0x02, 0x00] State.reset)).out.responses.map Response.encode =
      [[0x80, 0x02, 0x01, 0x00, 0x08, 0x5C, 0x01, 0x00, 0x00, 0x01, 0x00, 0x01, 0x01, 0x00, 0x00] ++
        List.replicate 12 0x00 ++ [0x32, 0x00, 0x00, 0x00]] := by decide +kernel

/-- Section 9.4: a replay timeout of 501 is out of range, 500 is not. -/
theorem test_setLink :
    (after .setLink (asked [0x02, 1, 0xF4, 0x01, 5, 1] State.reset)).control.replayTimeout = 500 ∧
      answers (after .setLink (asked [0x02, 1, 0xF5, 0x01, 5, 1] State.reset)) = [(1, .badParam)] := by decide +kernel

/-- R164: in START a RESTART takes effect at once. -/
theorem test_restart :
    (after .restart (asked [0x03, 1] State.reset)).resetting = some ⟨false, false, true⟩ ∧
      (after .restart (asked [0x03, 1] (linked Link.initial))).restartPending = true := by decide +kernel

/-- Section 1.6, steps 1 and 4: MAP_CONFLICT for an affected ON connector; UNMAPPED for one that leaves. -/
theorem test_setSlotMap :
    let board := { State.reset with slotMap := #v[some 7, some 6, some 4, some 3, some 1, some 0, none, none],
                                    strapDisabled := 0x24 }
    let off := board.withConn 0 { Connector.initial with state := .off, presAsserted := true }
    let ask := fun (s : State) => after .setSlotMap (asked [0x04, 9, 8, 7, 6, 4, 3, 1, 0xFF, 0xFF, 0xFF] s)
    answers (ask (board.withConn 0 onConn)) = [(9, .mapConflict)] ∧
      (ask off).out.events = [.started .powerOn, .slotState ⟨0, 6, .off, .unused, .unmapped, 0, 1⟩] := by decide +kernel

/-- Section 1.6, step 5: a connector that enters the map, with its presence asserted. -/
theorem test_setSlotMap_enters :
    let board := { State.reset with slotMap := #v[some 7, some 6, some 4, some 3, some 1, none, none, none],
                                    strapDisabled := 0x24 }
    let s := board.withConn 0 { Connector.initial with state := .unused, presAsserted := true }
    let t := after .setSlotMap (asked [0x04, 9, 8, 7, 6, 4, 3, 1, 0xFF, 0xFF, 0] s)
    t.out.events = [.started .powerOn, .slotState ⟨0, 8, .unused, .empty, .mapped, 0, 1⟩] ∧
      t.conns[0].debounce = some 10 := by decide +kernel

/-- R52's example: a one-byte message holding the code of GET_SLOT_MAP. -/
theorem test_getSlotMap :
    (after .getSlotMap (asked [0x05] State.reset)).out.responses = [⟨0x05, 0xFF, .badLength, .empty⟩] ∧
      (after .getSlotMap (asked [0x05, 1] State.reset)).out.responses.map Response.encode =
        [[0x80, 1, 0x05, 0x00, 0, 1, 2, 3, 4, 5, 6, 7, 0x00]] := by decide +kernel

/-- R169, R170: quota 17 is out of range, and nothing is replaced; quota 16 is in range. -/
theorem test_slotConfigure :
    let record := fun (quota : Byte) => SlotConfig.default.encode.set 14 quota
    let t := after .slotConfigure (asked ([0x06, 1, 3] ++ record 17) State.reset)
    answers t = [(1, .badParam)] ∧ t.conns = State.reset.conns ∧
      (after .slotConfigure (asked ([0x06, 1, 3] ++ record 16) State.reset)).conns[2].config.quota = 16 := by
  decide +kernel

/-- Section 9.6: the slot status of a running connector with a READ at work and its attention armed. -/
theorem test_slotStatus :
    let k := { busy (entry 7 .read 3 .waiting) 0 [] with armed := true, postingCounter := 0x0128 }
    ((after .slotStatus (asked [0x07, 1, 3] (given 2 k))).out.responses.map Response.encode).map (fun m => m.take 16) =
      [[0x80, 1, 0x07, 0x00, 2, 3, 0x04, 0, 0x13, 0x02, 1, 0, 1, 0, 0x28, 0x01]] := by decide +kernel

/-- Section 10.7 at 900: refused FAULT_LATCHED with body FAULTED, counter 1. -/
theorem test_slotPowerOn :
    let k := { Connector.initial with state := .faulted, faultCounter := 1 }
    (after (.slotPowerOn high) (asked [0x08, 1, 5] (given 4 k))).out.responses =
      [⟨0x08, 1, .faultLatched, .power 4 5 .faulted 1⟩] := by decide +kernel

/-- Section 1.6, step 2: entries end POWERED_OFF, ON to OFF. -/
theorem test_slotPowerOffAbort :
    let k := busy (entry 2 .write 5 .waiting) 1 [entry 3 .read 5 .waiting]
    let t := after .slotPowerOffAbort (asked [0x09, 1, 5, 0x00] (given 4 k))
    answers t = [(2, .poweredOff), (3, .poweredOff), (1, .ok)] ∧
      t.out.events = [.started .powerOn, .slotState ⟨4, 5, .on, .off, .hostOff, 0, 1⟩] := by decide +kernel

/-- Section 10.9 at 1: to DRAINING, the OK's body shows it; an empty queue goes to OFF, DRAINED (R40). -/
theorem test_slotPowerOffDrain :
    let ask := fun k => after .slotPowerOffDrain (asked [0x09, 1, 7, 0x01] (given 6 k))
    (ask (busy (entry 2 .write 7 .waiting) 0 [])).out.responses = [⟨0x09, 1, .ok, .power 6 7 .draining 0⟩] ∧
      (ask onConn).out.events = [.started .powerOn, .slotState ⟨6, 7, .on, .off, .drained, 0, 1⟩] := by decide +kernel

/-- Section 10.7: SLOT_CLEAR_FAULT leaves OFF with counter 0. -/
theorem test_slotClearFault :
    let k := { Connector.initial with state := .faulted, faultCounter := 1 }
    (after .slotClearFault (asked [0x0A, 1, 5] (given 4 k))).out.responses =
      [⟨0x0A, 1, .ok, .power 4 5 .off 0⟩] := by decide +kernel

/-- R46: armed with a steady input in ON, the event is raised at once. -/
theorem test_attentionArm :
    (after .attentionArm (asked [0x0B, 1, 7] (given 6 { onConn with attnAsserted := true, steady := true }))).out.events =
      [.started .powerOn, .attention 6 7] := by decide +kernel

/-- Section 4.12 at 0: posting number 40, OK queued, not started behind an ACTIVE entry. -/
theorem test_postWrite :
    let k := { busy (entry 10 .write 5 .waiting) 0 [] with postingCounter := 40 }
    let t := after (.postWrite high) (asked [0x10, 11, 5, 0x2C, 1, 0xAB] (given 4 k))
    t.out.responses = [⟨0x10, 11, .ok, .posted 4 5 40⟩] ∧ held t 4 = [(10, .active), (11, .waiting)] ∧
      t.conns[4].postingCounter = 41 := by decide +kernel

/-- Section 4.12 at 0: the WRITE starts at once; section 9.3: count 40 passes check 1 and fails check 6. -/
theorem test_write :
    held (after (.write high) (asked [0x11, 10, 5, 0x50, 2, 1, 0x07] (given 4 onConn))) 4 = [(10, .active)] ∧
      answers (after (.write high) (asked ([0x11, 10, 5, 0x50, 2, 40] ++ List.replicate 40 0) (given 4 onConn))) =
        [(10, .badParam)] := by decide +kernel

/-- Section 10.7 at 100: refused SLOT_NOT_READY in COOLDOWN; section 10.6 at 14: it waits in POWERING, deadline 2000. -/
theorem test_read :
    let m : Message := [0x12, 22, 5, 0x50, 3, 16, 2, 0, 0]
    let cool := { Connector.initial with state := .cooldown, faultCounter := 1, cooldown := some 500 }
    let t := after (.read high) (asked m (given 4 poweringConn))
    answers (after (.read high) (asked m (given 4 cool))) = [(22, .slotNotReady)] ∧ held t 4 = [(22, .waiting)] ∧
      t.conns[4].queue.map (fun e => e.deadline) = [some 2000] := by decide +kernel

/-- R79: a FENCE behind an entry waits; on a HUNG engine at the head it ends BUS_HUNG (R81). -/
theorem test_fence :
    held (after (.fence high) (asked [0x13, 3, 5] (given 4 (busy (entry 1 .write 5 .waiting) 0 [])))) 4 =
        [(1, .active), (3, .waiting)] ∧
      answers (after (.fence high) (asked [0x13, 3, 5] (given 4 { onConn with engine := .hung }))) = [(3, .busHung)] := by
  decide +kernel

/-- R117: MRST_N asserted for the pulse. -/
theorem test_pulseReset :
    let t := after (.pulseReset high) (asked [0x14, 3, 5, 9] (given 4 onConn))
    t.conns[4].mrst = true ∧ t.conns[4].engine = .pulsing 9 := by decide +kernel

/-- Section 4.13, step 3: CLEAR_BUS runs on a HUNG engine. -/
theorem test_clearBus :
    let t := after (.clearBus high) (asked [0x15, 22, 5] (given 4 { onConn with engine := .hung }))
    held t 4 = [(22, .active)] ∧ t.conns[4].engine = .clearing .requested (BusClear.begun .khz100) := by decide +kernel

/-- Section 3.9's example: CANCEL tag 8 of target 2, WAITING behind an ACTIVE WRITE. -/
theorem test_cancel :
    let k := busy (entry 1 .write 5 .waiting) 0 [entry 2 .read 5 .waiting, entry 3 .fence 5 .waiting]
    let t := after (.cancel high) (asked [0x16, 8, 2] (given 4 k))
    answers t = [(2, .cancelled), (8, .ok)] ∧ held t 4 = [(1, .active), (3, .waiting)] := by decide +kernel

/-- Section 10.9 at 2: the ACTIVE posted write ends CANCELLED with its 17 bytes and is aborted. -/
theorem test_cancel_active :
    let e := { entry 11 .postWrite 7 .active with writeBytes := List.replicate 32 0xAA, postingNumber := some 5 }
    let t := after (.cancel high) (asked [0x16, 20, 11] (given 6 (busy e 17 [])))
    t.out.events = [.started .powerOn, .postedFailed 6 7 5 .cancelled 17] ∧ t.conns[6].engine.state = .aborting := by
  decide +kernel

/-! ### Entries and engines -/

/-- R78, R109: the prefix byte, then a received byte that is kept. -/
theorem test_byteCompleted :
    let t := after (.byteCompleted 4 0x77) (given 4 (busy (entry 20 .read 5 .waiting) 1 []))
    t.conns[4].queue.map (fun e => e.acked) = [2] ∧
      t.conns[4].engine = .transferring { attempt (entry 20 .read 5 .waiting) 2 with received := [0x77] } := by
  decide +kernel

/-- Section 4.12 at 1: ADDRESS_NAK, BACKOFF; the posted write behind passes it and starts. -/
theorem test_attemptOutcome :
    let k := busy (entry 10 .write 5 .waiting) 0 [entry 11 .postWrite 5 .waiting, entry 12 .read 5 .waiting]
    let t := after (.attemptOutcome 4 .addressNak high) (given 4 k)
    held t 4 = [(10, .backoff), (11, .active), (12, .waiting)] ∧ (t.conns[4].queue.map fun e => e.retryTimer) =
      [some 5, none, none] := by decide +kernel

/-- Section 4.12 at 14: DONE, bytes acknowledged 5. -/
theorem test_attemptOutcome_done :
    let t := after (.attemptOutcome 4 .done high) (given 4 (busy (entry 12 .read 3 .waiting) 5 []))
    t.out.responses = [⟨0x12, 12, .ok, .readData 4 3 5 []⟩] ∧ t.conns[4].engine = .idle := by decide +kernel

/-- Section 4.12 at 6: the interval expires and the head starts again. -/
theorem test_retryIntervalExpiry :
    let k := { onConn with queue := [entry 10 .write 5 .backoff, entry 12 .read 5 .waiting] }
    held (after (.retryIntervalExpiry 10 high) (given 4 k)) 4 = [(10, .active), (12, .waiting)] := by decide +kernel

/-- Section 10.9 at 150: EXPIRED in BACKOFF empties the queue, the drain completes. -/
theorem test_deadlineExpiry :
    let k := { onConn with state := .draining, queue := [entry 10 .write 7 .backoff] }
    let t := after (.deadlineExpiry 10 high) (given 6 k)
    answers t = [(10, .expired)] ∧
      t.out.events = [.started .powerOn, .slotState ⟨6, 7, .draining, .off, .drained, 0, 1⟩] := by decide +kernel

/-- Section 4.13, step 1: BUS_STUCK with 3 bytes, the automatic clear begins and nothing starts. -/
theorem test_stretchLimit :
    let t := after (.stretchLimit 1) (given 1 (busy (entry 20 .read 2 .waiting) 3 [entry 21 .postWrite 2 .waiting]))
    t.out.responses = [⟨0x12, 20, .busStuck, .acked 1 2 3⟩] ∧ held t 1 = [(21, .waiting)] ∧
      t.conns[1].engine = .clearing .afterStretch (BusClear.begun .khz100) := by decide +kernel

/-- Section 4.13, steps 2 and 3: the clear fails; P21 ends BUS_HUNG; C22 starts on the HUNG engine. -/
theorem test_busClearEnd :
    let p := { entry 21 .postWrite 2 .waiting with postingNumber := some 7 }
    let k := { onConn with
      queue := [p, entry 22 .clearBus 2 .waiting, entry 23 .write 2 .waiting],
      engine := .clearing .afterStretch (BusClear.begun .khz100) }
    let t := after (.busClearEnd 1 (List.replicate 10 false) high high) (given 1 k)
    t.out.events = [.started .powerOn, .postedFailed 1 2 7 .busHung 0] ∧
      held t 1 = [(22, .active), (23, .waiting)] := by decide +kernel

/-- Section 4.13, step 4: the clear succeeds; C22 ends OK; W23 starts. -/
theorem test_busClearEnd_ok :
    let k := { onConn with
      queue := [entry 22 .clearBus 2 .active, entry 23 .write 2 .waiting], engine := .clearing .requested (BusClear.begun .khz100) }
    let t := after (.busClearEnd 1 [false, true] high high) (given 1 k)
    answers t = [(22, .ok)] ∧ held t 1 = [(23, .active)] := by decide +kernel

/-- Section 10.9 at 3: the abort ends, IDLE, and W10 starts. -/
theorem test_abortEnd :
    let k := { onConn with
      queue := [entry 10 .write 7 .waiting], engine := .aborting (attempt (entry 11 .postWrite 7 .waiting) 1) .stop }
    held (after (.abortEnd 6 high) (given 6 k)) 6 = [(10, .active)] := by decide +kernel

/-- R85, R117: the pulse ends OK and MRST_N is released. -/
theorem test_pulseTimerExpiry :
    let k := { onConn with queue := [entry 3 .pulseReset 5 .active], engine := .pulsing 9, mrst := true }
    let t := after (.pulseTimerExpiry 4 high) (given 4 k)
    answers t = [(3, .ok)] ∧ t.conns[4].mrst = false := by decide +kernel

/-! ### States and operands that meet the statements' hypotheses -/

/-- A part at work: connector 0 ON after a retry with a WRITE in BACKOFF, an ACTIVE posted write that passed it and a
waiting READ; connector 1 DRAINING with a pulse; connector 2 in COOLDOWN; the link UP with frames held and a RESTART
pending; 31 events queued. -/
def working : State :=
  let w := entry 31 .write 1 .backoff
  let p := entry 0 .postWrite 1 .waiting
  let s := given 0
    { busy p 1 [entry 12 .read 1 .waiting] with
      queue := [w, { p with state := .active, acked := 1 }, entry 12 .read 1 .waiting],
      faultCounter := 1, cooldown := some 1000, attnAsserted := true, steady := true }
  let s := s.withConn 1
    { onConn with state := .draining, mrst := true, queue := [entry 3 .pulseReset 2 .active], engine := .pulsing 9 }
  let s := s.withConn 2
    { Connector.initial with presAsserted := true, state := .cooldown, faultCounter := 1, cooldown := some 500 }
  let l : Link :=
    { Link.initial with
      state := .up, replay := (frames [62, 63]).map (fun f => { f with restartOk := f.number == 63 }), next := 0,
      replayTimer := some 50, replayCount := 3, ackPending := true, naks := [.hold], holdPause := some 10 }
  let s := s.withLink l
  { s with
    restartPending := true, control := { s.control with restartGuard := some 1000 },
    out := { s.out with
      events := .slotState ⟨2, 3, .on, .cooldown, .pgLost, 1, 1⟩ :: .attention 0 1 ::
        List.replicate 29 (.postedFailed 0 1 40 .expired 0),
      lostEvents := 255, consecutive := 4 } }

/-- The part at work with one command waiting. -/
def about (i : Instr) : State := { working with pending := [i] }

theorem witness_StepRunsFrontCommand :
    working.pending = [] ∧ step working = .next working.tick ∧
      (working.conns[0].engine.tick (some high) ≠ working.conns[0].engine) :=
  ⟨by decide +kernel, rfl, by decide +kernel⟩
theorem witness_StepKeepsEventQueueBounds :
    (about (.deadlineExpiry 0 high)).out.Bounded ∧ ∃ t, step (about (.deadlineExpiry 0 high)) = .next t :=
  ⟨by decide +kernel, _, rfl⟩
theorem witness_StepKeepsTagsDistinct :
    (about (.deadlineExpiry 31 high)).TagsDistinct ∧ ∃ t, step (about (.deadlineExpiry 31 high)) = .next t :=
  ⟨by decide +kernel, _, rfl⟩
theorem witness_StepKeepsPoolBounds :
    (about (.pulseTimerExpiry 1 high)).PoolBounded ∧ ∃ t, step (about (.pulseTimerExpiry 1 high)) = .next t :=
  ⟨by decide +kernel, _, rfl⟩
theorem witness_StepKeepsStartOrder :
    let s := about (.retryIntervalExpiry 31 high)
    s.TagsDistinct ∧ (∀ c : ConnId, s.conns[c].StartedInOrder) ∧ ∃ t, step s = .next t :=
  ⟨by decide +kernel, by decide +kernel, _, rfl⟩
theorem witness_StepKeepsOneActive :
    let s := about (.attemptOutcome 0 .done high)
    s.TagsDistinct ∧ (∀ c : ConnId, s.conns[c].OneActive) ∧ ∃ t, step s = .next t :=
  ⟨by decide +kernel, by decide +kernel, _, rfl⟩
theorem witness_StepKeepsPowerOutputs :
    (about (.pulseTimerExpiry 1 high)).PowerAgrees ∧ ∃ t, step (about (.pulseTimerExpiry 1 high)) = .next t :=
  ⟨by decide +kernel, _, rfl⟩
theorem witness_StepKeepsPowerOutputs_reset :
    let s := after (.deviceResetBegin .pin) working
    s.PowerAgrees ∧ ∃ t, step { s with pending := [.deviceResetEnd ⟨0, 0xFF⟩] } = .next t :=
  ⟨by decide +kernel, _, rfl⟩
theorem witness_StepKeepsFaultCounters :
    (about (.retryDelayExpiry 2 high)).CountersAgree ∧ ∃ t, step (about (.retryDelayExpiry 2 high)) = .next t :=
  ⟨by decide +kernel, _, rfl⟩
theorem witness_StepKeepsSupervisorTimers :
    (about (.ocInputChange 0 true)).TimersAgree ∧ ∃ t, step (about (.ocInputChange 0 true)) = .next t :=
  ⟨by decide +kernel, _, rfl⟩
theorem witness_StepKeepsSlotMapRelation :
    let s := about (.deadlineExpiry 31 high)
    s.MapAgrees ∧ s.PowerAgrees ∧ s.EntrySlotsStand ∧ ∃ t, step s = .next t :=
  ⟨by decide +kernel, by decide +kernel, by decide +kernel, _, rfl⟩
theorem witness_StepKeepsReplayWindow :
    (about .frameSchedule).link.WindowAgrees ∧ ∃ t, step (about .frameSchedule) = .next t :=
  ⟨by decide +kernel, _, rfl⟩
theorem witness_StepKeepsLinkTidy :
    (about .replayTimerExpiry).link.Tidy ∧ ∃ t, step (about .replayTimerExpiry) = .next t :=
  ⟨by decide +kernel, _, rfl⟩
theorem witness_StepKeepsRestartWait :
    (about .restartGuardExpiry).RestartAgrees ∧ ∃ t, step (about .restartGuardExpiry) = .next t :=
  ⟨by decide +kernel, _, rfl⟩

/-- The part with 63 places in use and the link UP, expecting frame 5. -/
def nearlyFull : State :=
  let s := (given 0 (busy (entry 1 .write 1 .waiting) 0 [])).withLink { Link.initial with state := .up, expected := 5 }
  { s with out := { s.out with responses := List.replicate 62 ⟨0x01, 0, .ok, .empty⟩ } }

theorem witness_ResponsePlacesConserved :
    let i : Instr := .attemptOutcome 0 .stuckAtStart high
    nearlyFull.TagsDistinct ∧ nearlyFull.resetting = none ∧ (after i nearlyFull).resetting = none ∧
      exec i nearlyFull = .next (after i nearlyFull) ∧ (∀ raw, i ≠ .dataFrame raw) ∧ i ≠ .frameSchedule :=
  ⟨by decide +kernel, by decide +kernel, by decide +kernel, rfl, by simp, by decide +kernel⟩
theorem witness_ResponsePlacesConserved_data :
    let i : Instr := .dataFrame (heard (.data 5 [0x05, 0x01]))
    nearlyFull.TagsDistinct ∧ nearlyFull.placesInUse = 63 ∧ (after i nearlyFull).resetting = none ∧
      (after i nearlyFull).placesInUse = 64 ∧ exec i nearlyFull = .next (after i nearlyFull) :=
  ⟨by decide +kernel, by decide +kernel, by decide +kernel, by decide +kernel, rfl⟩
theorem witness_ResponsesKeepTheirOrder :
    nearlyFull.resetting = none ∧ (after .frameSchedule nearlyFull).resetting = none ∧
      (after .frameSchedule nearlyFull).out.responses.length = 61 ∧
      exec .frameSchedule nearlyFull = .next (after .frameSchedule nearlyFull) :=
  ⟨by decide +kernel, by decide +kernel, by decide +kernel, rfl⟩
theorem witness_ResponsesKeepTheirOrder_other :
    let i : Instr := .deadlineExpiry 1 high
    (after i nearlyFull).resetting = none ∧ (after i nearlyFull).out.responses.length = 63 ∧ i ≠ .frameSchedule ∧
      exec i nearlyFull = .next (after i nearlyFull) :=
  ⟨by decide +kernel, by decide +kernel, by decide +kernel, rfl⟩
theorem witness_ConnectorsAreIndependent :
    connectorOf (.presenceInputChange 7 true) = some 7 ∧
      exec (.presenceInputChange 7 true) working = .next (after (.presenceInputChange 7 true) working) :=
  ⟨rfl, rfl⟩
theorem witness_ConnectorsAreIndependent_entries :
    31 ∈ working.tags ∧ 30 ∉ working.tags ∧
      exec (.retryIntervalExpiry 31 high) working = .next (after (.retryIntervalExpiry 31 high) working) ∧
      exec (.deadlineExpiry 30 high) working = .next (after (.deadlineExpiry 30 high) working) :=
  ⟨by decide +kernel, by decide +kernel, rfl, rfl⟩
theorem witness_UpIsEnteredAndLeftByNamedCommands :
    (State.reset.link.state ≠ .up ∧ (after (.sync (heard .sync)) State.reset).link.state = .up) ∧
      (working.link.state = .up ∧ (after .replayTimerExpiry working).link.state ≠ .up) ∧
      (after (.nakUnsynced (heard (.nak .unsynced 0))) working).link.state ≠ .up ∧
      (after (.deviceResetEnd ⟨0, 0⟩) (after (.deviceResetBegin .pin) working)).link.state ≠ .up := by
  decide +kernel
/-- A message for each of the three checks, one for UNKNOWN_REQUEST, one that is not the command's. -/
theorem witness_RestartPendingStopsAdmission :
    let s := fun m => asked m working
    working.restartPending = true ∧ working.resetting = none ∧
      (isRequest .getSlotMap = true ∧ takes .getSlotMap [0x06, 0x01] = false) ∧
      (takes .unknownRequest [0x17, 0x01] = true ∧ answers (after .unknownRequest (s [0x17, 0x01])) = [(1, .unknownRequest)]) ∧
      (takes .getSlotMap [0x05] = true ∧ answers (after .getSlotMap (s [0x05])) = [(0xFF, .badLength)]) ∧
      (takes .getSlotMap [0x05, 32] = true ∧ answers (after .getSlotMap (s [0x05, 32])) = [(32, .badParam)]) ∧
      (takes .slotPowerOffDrain [0x09, 31, 1, 0x01] = true ∧
        answers (after .slotPowerOffDrain (s [0x09, 31, 1, 0x01])) = [(31, .restarting)]) := by
  decide +kernel
theorem witness_DeviceResetHoldsEverything :
    let i : Instr := .presenceInputChange 3 true
    (after (.deviceResetBegin .powerOn) working).resetting ≠ none ∧ (∀ source, i ≠ .deviceResetBegin source) ∧
      ∀ straps, i ≠ .deviceResetEnd straps :=
  ⟨by decide +kernel, by simp, by simp⟩

/-- Both sides of the Event Queue's last place (R123): 31 and 32 events held. -/
theorem witness_EventsAreMergedPlacedOrLost :
    let full := working.out.raise (.hostLoss .hold 0)
    working.out.events.length = 31 ∧ full.events.length = 32 ∧ (full.raise (.hostLoss .hold 0)).events.length = 32 ∧
      (full.raise (.slotState ⟨2, 3, .cooldown, .powering, .retry, 1, 1⟩)).events.head? =
        some (.slotState ⟨2, 3, .on, .powering, .retry, 1, 2⟩) := by decide +kernel
theorem witness_StartChoosesOldestEligible :
    let k := { onConn with queue := [entry 10 .write 1 .backoff, entry 12 .read 1 .waiting, entry 13 .postWrite 1 .waiting] }
    k.chosen = some (entry 13 .postWrite 1 .waiting) := by decide +kernel
/-- A start of each kind on an IDLE and on a HUNG engine, ahead of an entry that the chain then decides about; and a
connector where nothing may start. -/
theorem witness_StartChoosesOldestEligible_starts :
    (∀ kind ∈ [EntryKind.postWrite, .write, .read, .fence, .pulseReset, .clearBus], ∀ engine ∈ [Engine.idle, .hung],
      let e := entry 10 kind 8 .waiting
      let s := given 7 { onConn with queue := [e, entry 12 .clearBus 8 .waiting], engine }
      s.TagsDistinct ∧ s.conns[7].state.usable = true ∧ s.conns[7].engine = engine ∧
        (∀ x ∈ s.conns[7].queue, x.state ≠ .active) ∧ s.conns[7].chosen = some e ∧
        s.conns[7].queue = [] ++ e :: [entry 12 .clearBus 8 .waiting]) ∧
      (given 7 poweringConn).conns[7].state.usable = false := by decide +kernel
/-- No pulse, the first pulse and the ninth, the stop, and an end. -/
theorem witness_BusClearCourse :
    (BusClear.mk .khz100 0 .release 0).result (List.replicate 9 false ++ [true]) ⟨true, false⟩ = some false ∧
      (BusClear.mk .khz100 0 .release 0).result (List.replicate 10 false) high ≠ none ∧
      (BusClear.mk .khz400 0 .pulse 2).result [false, true] high = some true ∧
      (BusClear.mk .khz400 8 .pulse 2).result [false] high = some false ∧
      (BusClear.mk .khz400 9 .stop 3).result [] high = some true ∧
      (BusClear.mk .khz400 9 (.ended true) 0).result [true] high = none ∧ (8 + 1 = 9 ∧ 1 ≤ 1) := by decide +kernel
theorem witness_FramesAreReceivedAsSent :
    (∀ n payload, HostFrame.data 63 (List.replicate 80 0xD2) = .data n payload → payload.length ≤ 80) ∧
      receivedFrame .hunting (heard (.data 63 [0xD2, 0xD2])) = some (.data 63 [0xD2, 0xD2]) :=
  ⟨by rintro n payload ⟨⟩; decide, by decide +kernel⟩
theorem witness_FramesAreReceivedAsSent_line :
    (after .transmitNextFrame (linked { Link.initial with ackPending := true })).link.sending = some (ackFrameBytes 0) ∧
      State.reset.link.sending = none := by decide +kernel
theorem witness_FramesAreReceivedAsSent_bytes :
    (List.replicate 80 (0xD2 : Byte)).length ≤ 80 ∧ frameNumbers 1 31 [] = [0xD2, 0x5F, 0, 0x03, 0x8E] ∧
      ackFrameBytes 31 = [0xD2, 0x5F, 0, 0x03, 0x8E] := by decide +kernel
theorem witness_DeviceResetBegins :
    working.resetting = none ∧ (after (.deviceResetBegin .pin) working).resetting = some ⟨false, true, false⟩ := by
  decide +kernel
theorem witness_DeviceResetEnds :
    { State.reset with resetting := some ⟨false, false, true⟩ }.resetting = some ⟨false, false, true⟩ := by decide +kernel

theorem witness_InputChangesAreFollowed :
    working.resetting = none ∧ working.conns[0].state ≠ .unused ∧ working.conns[7].attnAsserted ≠ true ∧
      working.conns[2].state.powered = false ∧ (after (.deviceResetBegin .pin) working).resetting ≠ none ∧
      (given 7 { Connector.initial with state := .unused }).conns[7].state = .unused := by decide +kernel

/-- A seated connector in a state, its debounce timer about to take a change of presence. -/
def debouncing (state : ConnState) (auto : Bool) : State :=
  given 7
    { Connector.initial with
      state, debounce := some 10, presAsserted := state == .empty,
      config := { SlotConfig.default with autoPower := auto } }

theorem witness_DebounceExpiryTakesPresence :
    let ready := fun (s : State) => s.resetting = none ∧ s.conns[7].debounce.isSome = true
    let k := fun state auto => (debouncing state auto).conns[7]
    (ready (debouncing .empty false) ∧ (k .empty false).state = .empty ∧ (k .empty false).config.autoPower = false) ∧
      (ready (debouncing .empty true) ∧ (k .empty true).config.autoPower = true ∧ (k .empty true).pgAsserted = false) ∧
      (let u := (debouncing .empty true).withConn 7 { k .empty true with pgAsserted := true }
      ready u ∧ u.conns[7].state = .empty ∧ u.conns[7].config.autoPower = true ∧
        (after (.presenceDebounceExpiry 7 high) u).conns[7].state = .on) ∧
      (ready (debouncing .draining false) ∧ (k .draining false).state.powered = true) ∧
      (ready (debouncing .faulted false) ∧ (k .faulted false).state = .faulted) := by decide +kernel
theorem witness_RetryPowerGoodAndWindow :
    let k := (given 4 poweringConn).conns[4]
    (working.resetting = none ∧ working.conns[2].state = .cooldown ∧ working.conns[2].cooldown.isSome = true ∧
        working.conns[2].pgAsserted = false) ∧
      (k.state = .powering ∧ k.queue = [] ∧ (k.armed && k.steady) = false) ∧
      (let u := given 4 { poweringConn with queue := [entry 7 .read 5 .waiting], armed := true, steady := true }
      u.resetting = none ∧ u.conns[4].state = .powering ∧ held (after (.pgInputChange 4 true high) u) 4 = [(7, .active)] ∧
        (after (.pgInputChange 4 true high) u).out.events.getLast? = some (.attention 4 5)) ∧
      (working.conns[0].state.usable = true ∧ working.conns[0].cooldown.isSome = true) := by decide +kernel
theorem witness_FaultConditionIsTimed :
    let a := (given 4 onConn).conns[4]
    let b := (given 4 { poweringConn with ocAsserted := true }).conns[4]
    let d := (given 4 { onConn with ocAsserted := true, qualify := some 2 }).conns[4]
    (a.state.powered = true ∧ a.inrush = none ∧ a.ocAsserted = false ∧ (a.state.usable = true → a.pgAsserted = true) ∧
        a.config.qualifyMs ≠ 0) ∧
      (d.state.powered = true ∧ d.inrush = none ∧ d.ocAsserted = true ∧ (d.state.usable = true → d.pgAsserted = true)) ∧
      (b.state.powered = true ∧ b.inrush.isSome = true ∧ b.ocAsserted = true ∧
        (b.state.usable = true → b.pgAsserted = true) ∧ b.config.qualifyMs ≠ 0) ∧
      (a.state.usable = true ∧ a.pgAsserted = true ∧ (a.ocAsserted = false ∨ a.inrush.isSome = true)) ∧
      poweringConn.inrush.isSome = true ∧ poweringConn.ocAsserted = false := by decide +kernel
/-- OC in the inrush window of POWERING and of ON, asserted or not, with PG fine. -/
theorem witness_FaultConditionIsTimed_inrush :
    ∀ oc ∈ [false, true], ∀ k ∈ [poweringConn, { onConn with inrush := some 6 }],
      let k := (given 4 { k with ocAsserted := oc }).conns[4]
      k.state.powered = true ∧ k.inrush.isSome = true ∧ (k.state.usable = true → k.pgAsserted = true) := by
  decide +kernel
/-- PG lost: with OC deasserted, with OC counting, and with OC ignored in the inrush window. -/
theorem witness_FaultConditionIsTimed_forms :
    let lost := fun oc inrush =>
      (given 4 { onConn with pgAsserted := false, ocAsserted := oc, inrush, qualify := some 2 }).conns[4]
    ∀ oc ∈ [false, true], ∀ inrush ∈ [none, some 20],
      (lost oc inrush).state.usable = true ∧ (lost oc inrush).pgAsserted = false ∧
        ((lost oc inrush).ocAsserted = oc ∧ (lost oc inrush).inrush = inrush) := by decide +kernel
theorem witness_QualifiedFaultIsTaken :
    let d := (given 4 { onConn with ocAsserted := true, qualify := some 2 }).conns[4]
    let z := (given 4 { onConn with config := { SlotConfig.default with qualifyMs := 0 } }).conns[4]
    let p := (given 4 poweringConn).conns[4]
    (d.state.powered = true ∧ d.qualify.isSome = true) ∧ (p.state = .powering ∧ p.pgDeadline.isSome = true) ∧
      (z.state.powered = true ∧ z.inrush = none ∧ z.ocAsserted = false ∧ (z.state.usable = true → z.pgAsserted = true) ∧
        z.config.qualifyMs = 0) ∧
      (z.state.usable = true ∧ z.pgAsserted = true) := by decide +kernel
/-- qualify_ms 0 inside the inrush window, with OC asserted. -/
theorem witness_QualifiedFaultIsTaken_inrush :
    let k :=
      (given 4 { onConn with ocAsserted := true, inrush := some 20, config := { SlotConfig.default with qualifyMs := 0 } }).conns[4]
    k.state.powered = true ∧ k.state.usable = true ∧ k.pgAsserted = true ∧ k.ocAsserted = true ∧
      k.inrush.isSome = true ∧ k.config.qualifyMs = 0 := by decide +kernel
theorem witness_AttentionIsReportedOnce :
    let s := asked [0x0B, 31, 7] (given 6 { onConn with attnTimer := some 1, armed := true })
    (s.resetting = none ∧ s.conns[6].attnTimer.isSome = true) ∧
      (s.admissionQueue = [0x0B, 31, 7] :: [] ∧ s.Admits 31 ∧ s.resolve 7 = some 6) := by decide +kernel

/-- Every class of DATA frame at its boundaries: distances 0, 1, 8, 9 and 63 from E, with 63 places in use. -/
theorem witness_DataFrameIsHandled :
    nearlyFull.resetting = none ∧ nearlyFull.placesInUse = 63 ∧
      ([5, 4, 61, 60, 6].map fun (n : Seq) => receivedFrame nearlyFull.link.rx (heard (.data n [0x05]))) =
        [5, 4, 61, 60, 6].map fun (n : Seq) => some (.data n [0x05]) := by decide +kernel
/-- The number at its boundaries: none, all and one more than all of the frames held. -/
theorem witness_AcknowledgementIsHandled :
    working.resetting = none ∧
      ([62, 0, 1].map fun (n : Seq) => receivedFrame working.link.rx (heard (.ack n))) =
        [62, 0, 1].map fun (n : Seq) => some (.ack n) := by decide +kernel
/-- R156, R164: frames leave, and the replay count becomes 0, also where one carries a RESTART's OK and the reset begins;
an acknowledgement short of that frame leaves it, and the RESTART waits on. -/
theorem test_acknowledged_restart :
    let all := after (.ackFrame (heard (.ack 0))) working
    let one := after (.ackFrame (heard (.ack 63))) working
    working.link.replayCount = 3 ∧ all.resetting = some ⟨false, false, true⟩ ∧ all.link.replayCount = 0 ∧
      all.link.replay = [] ∧ one.resetting = none ∧ one.link.replayCount = 0 ∧ one.restartPending = true := by
  decide +kernel
theorem witness_AcknowledgementIsHandled_naks :
    receivedFrame working.link.rx (heard (.nak .gap 62)) = some (.nak .gap 62) ∧
      receivedFrame working.link.rx (heard (.nak .hold 63)) = some (.nak .hold 63) := by decide +kernel
theorem witness_HostUnsyncedEntersDown :
    working.resetting = none ∧
      receivedFrame working.link.rx (heard (.nak .unsynced 63)) = some (.nak .unsynced 63) := by decide +kernel
theorem witness_SyncRenumbersTheLink :
    working.resetting = none ∧ receivedFrame working.link.rx (heard .sync) = some .sync := by decide +kernel
theorem witness_DiscardsAreOnlyCounted :
    working.resetting = none ∧ receive working.link.rx (undamaged [0x00, 0xD2, 0x05, 81]) = some (.inr .discarded) ∧
      receive working.link.rx (undamaged [0xD2, 0x05, 80]) = some (.inl (.inFrame [0x05, 80])) := by decide +kernel
/-- Bytes that begin no frame, and frames broken off: after the start byte, after the length byte, one byte short of the
whole. -/
theorem witness_DiscardsAreOnlyCounted_runs :
    (working.resetting = none ∧ working.link.rx = .hunting) ∧
      [⟨0x00, false⟩, ⟨0xD2, true⟩].all RxByte.idle = true ∧ (80 < (81 : Byte).toNat ∧ 80 < (255 : Byte).toNat) ∧
      ∀ taken ∈ [([] : List Byte), [0x05], [0x05, 80], [0x05, 0] ++ [0x11], [0x05, 80] ++ List.replicate 81 0xD2],
        taken[1]?.all (fun length => length.toNat ≤ 80 ∧ taken.length < length.toNat + 4) = true := by decide +kernel
/-- A whole frame with its computed check is discarded. -/
def discardedWhole (control : Byte) (payload : List Byte) : Bool :=
  let check := crc16 (control :: BitVec.ofNat 8 payload.length :: payload)
  decide (isDiscarded control payload (highByte check) (lowByte check))
/-- An ACK and a SYNC with a payload, NAKs of a wrong cause and a wrong length, a SYNC_ACK and a CONTROL frame of no subtype
are discarded; a frame of each type is not, but for a wrong bit in either check byte. -/
theorem witness_DiscardsAreOnlyCounted_frames :
    (∀ f ∈ [((0x41 : Byte), ([0] : List Byte)), (0xC1, [0]), (0x80, [0]), (0x80, [4]), (0x80, []), (0x80, [1, 1]),
        (0xC2, [0, 0]), (0xC0, [])], discardedWhole f.1 f.2 = true) ∧
      (∀ f ∈ [((0x3F : Byte), List.replicate 8 (7 : Byte)), (0x05, []), (0x5F, []), (0x9E, [3]), (0xC1, [])],
        discardedWhole f.1 f.2 = false) ∧
      isDiscarded 0x5F [] 0x02 0x8E ∧ isDiscarded 0x5F [] 0x03 0x8F ∧ ¬isDiscarded 0x5F [] 0x03 0x8E := by
  decide +kernel
theorem witness_LinkTimersExpire :
    (working.resetting = none ∧ working.link.state = .up ∧ working.link.replayTimer.isSome = true ∧
        working.link.replayCount + 1 = 4) ∧
      working.link.holdPause.isSome = true ∧
      (State.reset.withLink { Link.initial with spacing := some 100 }).link.spacing.isSome = true := by decide +kernel
theorem witness_HostLossActionIsApplied :
    let s := working.withLink { Link.initial with state := .down, hostLoss := some 1000 }
    let all := { s with control := { s.control with hostLossAction := .powerOffAll } }
    (s.resetting = none ∧ s.link.state = .down ∧ s.link.hostLoss.isSome = true ∧ s.control.hostLossAction = .hold) ∧
      all.resetting = none ∧ all.link.hostLoss.isSome = true ∧ all.control.hostLossAction = .powerOffAll := by
  decide +kernel
theorem witness_TransmitterTakesFirstWaiting :
    let l := (linked { Link.initial with syncAck := some ⟨63, 8⟩ }).link
    let n := (linked { Link.initial with naks := [.gap, .hold], ackPending := true }).link
    let a := (linked { Link.initial with ackPending := true }).link
    let f := (linked { Link.initial with replay := frames [10] ++ [⟨11, [0x40], true, false⟩] }).link
    l.syncAck = some ⟨63, 8⟩ ∧ (n.syncAck = none ∧ n.naks = .gap :: [.hold]) ∧
      (a.syncAck = none ∧ a.naks = [] ∧ a.ackPending = true) ∧
      (f.syncAck = none ∧ f.naks = [] ∧ f.ackPending = false ∧ f.state = .up ∧ f.holdPause = none ∧
        f.replay = frames [10] ++ ⟨11, [0x40], true, false⟩ :: [] ∧ ∀ g ∈ frames [10], g.marked = false) ∧
      (State.reset.link.syncAck = none ∧ State.reset.link.naks = [] ∧ State.reset.link.state ≠ .up) := by decide +kernel
theorem witness_SchedulerFramesOneMessage :
    let l := { Link.initial with state := .up, replay := frames [0, 1, 2, 3, 4, 5, 6], next := 7 }
    let s := (State.reset.withLink l).withOut { State.reset.out with responses := [⟨1, 3, .ok, .empty⟩], consecutive := 3 }
    let four := s.withOut { s.out with consecutive := 4 }
    let room := fun (s : State) => s.link.state = .up ∧ s.link.replay.length < 8 ∧ s.link.holdPause = none
    (s.resetting = none ∧ room s ∧ s.out.responses = ⟨1, 3, .ok, .empty⟩ :: [] ∧ s.out.consecutive < 4) ∧
      (room four ∧ four.out.events = .started .powerOn :: [] ∧ four.out.consecutive = 4) ∧
      ¬room (s.withLink { l with replay := l.replay ++ frames [7], next := 8 }) := by decide +kernel
theorem witness_RestartWaitsOrTakesEffect :
    ((asked [0x03, 0] State.reset).admissionQueue = [0x03, 0] :: [] ∧ (asked [0x03, 0] State.reset).Admits 0) ∧
      working.resetting = none ∧ working.control.restartGuard.isSome = true := by decide +kernel
theorem witness_DecodingRefusals :
    State.reset.resetting = none ∧ (asked [] State.reset).admissionQueue = [] :: [] ∧
      (∀ p ∈ requestCommands high, p.1 ≠ 0x00) ∧ (∀ p ∈ requestCommands high, p.1 ≠ 0x17) ∧
      lengthFits [0x10, 1, 1, 1, 2, 0] = false ∧ lengthFits ([0x04, 1, 7] ++ List.replicate 7 0) = false ∧
      (0x10, Instr.postWrite high) ∈ requestCommands high := by decide +kernel
theorem witness_StatusRequestsAreAnswered :
    let s := asked [0x01, 31, 0x01] State.reset
    let u := asked [0x07, 31, 8] State.reset
    (s.Admits 31 ∧ s.admissionQueue = [0x01, 31, 0x01] :: []) ∧
      u.Admits 31 ∧ u.admissionQueue = [0x07, 31, 8] :: [] ∧ u.resolve 8 = some 7 := by decide +kernel
theorem witness_SettingsAreReplacedWhole :
    let s := asked [0x02, 0, 0x05, 0x00, 255, 0x00] State.reset
    let u := asked [0x02, 0, 0xF4, 0x01, 0, 0x01] State.reset
    let longest := { SlotConfig.default with lifetimeMs := 60000, pgDeadlineMs := 1000, quota := 16 }
    let v := asked ([0x06, 0, 1] ++ longest.encode) State.reset
    (s.Admits 0 ∧ (5 : Byte).toNat + 256 * (0 : Byte).toNat = 5) ∧
      (u.Admits 0 ∧ (0xF4 : Byte).toNat + 256 * (0x01 : Byte).toNat = 500) ∧
      (v.Admits 0 ∧ v.resolve 1 = some 0 ∧ longest.inRange = true) := by decide +kernel
theorem witness_SlotMapIsReplacedOrRefused :
    let ask := fun (table : Vector (Option ConnId) 8) (s : State) =>
      asked ([0x04, 31, 8] ++ table.toList.map mapEntryByte) s
    let swap : Vector (Option ConnId) 8 := #v[some 1, some 0, some 2, some 3, some 4, some 5, some 6, none]
    let twice : Vector (Option ConnId) 8 := #v[some 1, some 1, none, none, none, none, none, none]
    let on := given 0 onConn
    ((ask twice on).Admits 31 ∧ ¬(namedIn twice).Nodup) ∧
      ((ask swap on).Admits 31 ∧ (namedIn swap).Nodup ∧ (∀ c ∈ namedIn swap, on.strapDisabled.getLsbD c.val = false) ∧
        slotIn on.slotMap 0 ≠ slotIn swap 0 ∧ on.conns[0].state.blocksMap = true) ∧
      ((ask swap State.reset).Admits 31 ∧ ∀ c : ConnId, State.reset.conns[c].state.blocksMap = false) := by decide +kernel
theorem witness_SlotMapIsReported :
    let s := asked [0x05] State.reset
    s.resetting = none ∧ s.admissionQueue = [0x05] :: [] ∧ ([0x05] : Message).head? = some 0x05 := by decide +kernel
theorem witness_PowerOffAbortByState :
    let s := asked [0x09, 0, 8, 0x00] (given 7 onConn)
    s.Admits 0 ∧ s.admissionQueue = [0x09, 0, 8, 0x00] :: [] ∧ s.resolve 8 = some 7 ∧ s.conns[7].state ≠ .unused := by
  decide +kernel
theorem witness_PowerOnByState :
    let s := fun (k : Connector) => asked [0x08, 0, 8] (given 7 k)
    let admitted := fun (s : State) => s.Admits 0 ∧ s.admissionQueue = [0x08, 0, 8] :: [] ∧ s.resolve 8 = some 7
    let drain := { busy (entry 1 .write 8 .waiting) 0 [] with state := .draining }
    (admitted (s { Connector.initial with state := .off }) ∧ (s Connector.initial).conns[7].pgAsserted = false) ∧
      (admitted (s { Connector.initial with state := .cooldown, pgAsserted := true }) ∧
        (after (.slotPowerOn high) (s { Connector.initial with state := .cooldown, pgAsserted := true })).conns[7].state =
          .on) ∧
      (admitted (s drain) ∧ drain.engine ≠ .idle ∧ drain.engine ≠ .hung ∧ (drain.armed && drain.steady) = false) ∧
      admitted (s onConn) ∧ (s onConn).conns[7].state = .on ∧ (s Connector.initial).conns[7].state = .empty ∧
      (s { Connector.initial with state := .faulted }).conns[7].state = .faulted := by decide +kernel
theorem witness_PowerOffDrainByState :
    let s := asked [0x09, 0, 8, 0x01] (given 7 (busy (entry 1 .write 8 .waiting) 0 []))
    s.Admits 0 ∧ s.admissionQueue = [0x09, 0, 8, 0x01] :: [] ∧ s.resolve 8 = some 7 ∧ s.conns[7].state = .on ∧
      s.conns[7].queue ≠ [] := by decide +kernel
theorem witness_ClearFaultByState :
    let s := asked [0x0A, 0, 8] (given 7 { Connector.initial with state := .faulted, faultCounter := 1 })
    s.Admits 0 ∧ s.admissionQueue = [0x0A, 0, 8] :: [] ∧ s.resolve 8 = some 7 ∧ s.conns[7].state = .faulted := by
  decide +kernel

/-- The longest WRITE in range: 32 bytes, budget 15, address 127. -/
def longWrite : BusRequest := ⟨.write, 127, 15, 0, List.replicate 32 0x55⟩

/-- A request of each kind, at the smallest or largest values in range. -/
def requests : List BusRequest :=
  [longWrite, ⟨.postWrite, 0, 0, 0, [0x01]⟩, ⟨.read, 127, 15, 32, [1, 2, 3, 4]⟩, ⟨.read, 0, 0, 1, []⟩,
   ⟨.fence, 0, 0, 0, []⟩, ⟨.pulseReset, 0, 0, 1, []⟩, ⟨.clearBus, 0, 0, 0, []⟩]

theorem witness_BusRequestsAreRefusedInOrder :
    let s := asked (longWrite.message 31 8) State.reset
    s.resetting = none ∧ longWrite.data.length < 256 ∧ s.admissionQueue = longWrite.message 31 8 :: [] ∧
      longWrite.refusal s 31 8 = some .slotNotReady ∧ longWrite.refusal s 32 8 = some .badParam ∧
      longWrite.refusal s 31 9 = some .badSlot ∧ { longWrite with budget := 16 }.refusal s 31 8 = some .badParam := by
  decide +kernel
/-- A control request or CANCEL that meets the hypotheses of its refusal. -/
abbrev refusedBy (s : State) (i : Instr) (m : Message) (status : Status) : Prop :=
  (asked m s).resetting = none ∧ takes i m = true ∧ m.headD 0 ∈ knownCodes ∧ lengthFits m = true ∧
    ((m.headD 0).toNat < 0x10 ∨ m.headD 0 = 0x16) ∧ (asked m s).controlRefusal m = some status

/-- Checks 2 to 5. -/
theorem witness_BusRequestsAreRefusedInOrder_control :
    refusedBy State.reset .getSlotMap [0x05, 32] .badParam ∧ refusedBy working .restart [0x03, 1] .restarting ∧
      refusedBy (given 7 (busy (entry 31 .write 8 .waiting) 0 [])) .getSlotMap [0x05, 31] .tagInUse ∧
      refusedBy State.reset .slotStatus [0x07, 31, 9] .badSlot ∧
      refusedBy State.reset .attentionArm [0x0B, 31, 0] .badSlot := by decide +kernel
/-- Check 6, at values just outside the ranges. -/
theorem witness_BusRequestsAreRefusedInOrder_ranges :
    ∀ p ∈ [(Instr.setLink, [0x02, 31, 4, 0, 0, 0]), (.setLink, [0x02, 31, 0xF5, 0x01, 0, 0]),
        (.setLink, [0x02, 31, 5, 0, 0, 2]), (.getStatus, [0x01, 31, 2]),
        (.slotConfigure, [0x06, 31, 1] ++ SlotConfig.default.encode.set 14 17),
        (.slotConfigure, [0x06, 31, 1] ++ (SlotConfig.default.encode.set 12 9).set 13 0),
        (.setSlotMap, [0x04, 31, 8] ++ List.replicate 7 0xFF ++ [8]), (.slotPowerOffAbort, [0x09, 31, 1, 2]),
        (.slotPowerOffDrain, [0x09, 31, 1, 2]), (.cancel high, [0x16, 31, 32])],
      refusedBy State.reset p.1 p.2 .badParam := by decide +kernel
theorem witness_BusRequestsWaitInPowering :
    ∀ r ∈ requests,
      let s := asked (r.message 31 8) (given 7 poweringConn)
      s.resetting = none ∧ s.admissionQueue = r.message 31 8 :: [] ∧ r.data.length < 256 ∧ r.refusal s 31 8 = none ∧
        s.resolve 8 = some 7 ∧ s.conns[7].state = .powering := by decide +kernel
theorem witness_BusRequestsStartOnIdleEngine_behind :
    ∀ r ∈ requests,
      let s := asked (r.message 31 8) (given 7 (busy (entry 1 .postWrite 8 .waiting) 0 []))
      s.resetting = none ∧ s.admissionQueue = r.message 31 8 :: [] ∧ r.data.length < 256 ∧ r.refusal s 31 8 = none ∧
        s.resolve 8 = some 7 := by decide +kernel
theorem witness_BusRequestsStartOnIdleEngine :
    ∀ r ∈ requests,
      let s := asked (r.message 31 8) (given 7 onConn)
      s.resetting = none ∧ s.admissionQueue = r.message 31 8 :: [] ∧ r.data.length < 256 ∧ r.refusal s 31 8 = none ∧
        s.resolve 8 = some 7 ∧ s.conns[7].state = .on ∧ s.conns[7].engine = .idle ∧ s.conns[7].queue = [] := by
  decide +kernel
theorem witness_EntriesAreWithdrawn :
    let e := entry 31 .read 8 .waiting
    let s := asked [0x16, 0, 31] (given 7 { poweringConn with queue := [entry 1 .write 8 .waiting, e] })
    s.resetting = none ∧ s.TagsDistinct ∧ s.conns[7].queue = [entry 1 .write 8 .waiting] ++ e :: [] ∧
      e.deadline.isSome = true ∧ s.admissionQueue = [0x16, 0, e.tag] :: [] ∧ s.Admits 0 := by decide +kernel
/-- The work of an ACTIVE entry on a DRAINING connector: a transfer, a pulse, a clear before a transfer, a requested
clear. -/
theorem witness_EntriesAreWithdrawn_active :
    let e := { entry 31 .read 8 .active with acked := 5 }
    ∀ engine ∈ [Engine.transferring (attempt e 5), .pulsing 9,
        .clearing (.beforeTransfer (attempt e 0) false) ⟨.khz100, 8, .pulse, 2⟩,
        .clearing .requested (BusClear.begun .khz100)],
      let s := asked [0x16, 0, 31] (given 7 { onConn with state := .draining, queue := [e], engine })
      s.resetting = none ∧ s.TagsDistinct ∧ s.conns[7].queue = [] ++ e :: [] ∧ e.state = .active ∧
        s.conns[7].engine = engine ∧ e.deadline.isSome = true ∧ s.admissionQueue = [0x16, 0, e.tag] :: [] ∧
        s.Admits 0 := by decide +kernel
theorem witness_EntriesAreWithdrawn_notFound :
    let s := asked [0x16, 0, 31] State.reset
    s.admissionQueue = [0x16, 0, 31] :: [] ∧ s.Admits 0 ∧ (31 : Byte).toNat < 32 ∧ 31 ∉ s.tags := by decide +kernel
/-- A waiting tracked entry, and an ACTIVE posted one that passed an older entry. -/
def passed (n : Nat) : List Entry × Entry :=
  ([entry 12 .write 8 .backoff], { entry 20 .read 8 .active with acked := n })

/-- A connector in a state whose second entry is the ACTIVE one, with an engine. -/
def second (state : ConnState) (n : Nat) (engine : Engine) : State :=
  given 7 { onConn with state, queue := (passed n).1 ++ [(passed n).2, entry 22 .fence 8 .waiting], engine }

/-- The last byte of the prefix, the last byte read, and one of which seven bits are read; a refused byte and a value that
the bits read rule out. -/
theorem witness_CompletedBytesAreCounted :
    let a := fun n => attempt (passed n).2 n
    let reading := { a 1 with phase := .readBytes, lineStep := 23, sampled := List.replicate 7 true }
    (∀ p ∈ [(0, a 0), (1, a 1), (4, a 4), (1, reading), (0, { a 0 with phase := .stop, refused := some .address })],
      let k := (second .on p.1 (.transferring p.2)).conns[7]
      k.engine = .transferring p.2 ∧ k.queue = (passed p.1).1 ++ (passed p.1).2 :: [entry 22 .fence 8 .waiting] ∧
        (∀ x ∈ (passed p.1).1, x.state ≠ .active) ∧ (passed p.1).2.state = .active ∧ p.2.sampled.length ≤ 8) ∧
      (∀ n ∈ [0, 1, 4], (a n).refused = none ∧ (a n).completed < (a n).writeBytes.length + (a n).readCount.getD 0 ∧
        (a n).sampled = []) ∧
      reading.reads 0xFE = true ∧ reading.reads 0xFF = true ∧ reading.reads 0xFD = false := by decide +kernel
theorem witness_CompletedBytesAreCounted_course :
    let w := attempt (entry 1 .write 8 .waiting) 0
    let r := { attempt (entry 1 .read 8 .waiting) 0 with writeBytes := [] }
    let busyByte := { attempt (entry 1 .read 8 .waiting) 2 with lineStep := 26 }
    let readings := List.replicate 28 high ++ List.replicate 27 ⟨true, false⟩
    (w.phase = .start ∧ w.lineStep = 0 ∧ w.completed = 0 ∧ w.sampled = [] ∧ w.writeBytes = 0x01 :: []) ∧
      (r.phase = .start ∧ r.lineStep = 0 ∧ r.completed = 0 ∧ r.sampled = [] ∧ r.writeBytes = [] ∧
        r.readCount = some 4) ∧
      ((∀ x ∈ readings, x.sclHigh = true) ∧ readings.length = 55 ∧ readings[28]? = some ⟨true, false⟩ ∧
        (List.replicate 31 high)[28]? = some high) ∧
      (busyByte.element = some (.received false) ∧ busyByte.lineStep < busyByte.phase.length) := by decide +kernel
theorem witness_CompletedBytesAreCounted_acknowledge :
    let a := { attempt (entry 1 .write 8 .waiting) 0 with phase := .writeBytes, lineStep := 26 }
    a.completed < a.writeBytes.length ∧ a.sampled = [] ∧ high.sdaHigh = true ∧ low.sdaHigh = false := by decide +kernel
/-- An attempt in each phase, at the last line step of its element. -/
theorem witness_CompletedBytesAreCounted_elements :
    let e := entry 1 .read 8 .waiting
    let at' := fun (phase : TransferPhase) n =>
      { attempt e 0 with phase, completed := n, lineStep := phase.length - 1 }
    ∀ a ∈ [at' .start 0, at' .writeAddress 0, at' .writeBytes 0, at' .repeatedStart 1, at' .readAddress 1,
        at' .readBytes 2, at' .readBytes 5, at' .stop 5],
      (Engine.transferring a).inPlace = true ∧ a.lineStep + 1 = a.phase.length ∧ a.element.isSome = true ∧
        a.writeBytes ≠ [] ∧ a.readCount ≠ some 0 ∧ high.sclHigh = true ∧ (a.phase = .readBytes → 24 ≤ a.lineStep) := by
  decide +kernel
theorem witness_CompletedBytesAreCounted_bits :
    let a := { attempt (entry 1 .read 8 .waiting) 1 with phase := .readBytes, lineStep := 2 }
    a.element = some (.received false) ∧ a.sampled.length = a.lineStep / 3 ∧ a.lineStep + 21 < 24 := by decide +kernel
theorem witness_AttemptOutcomesAreTaken :
    let e := fun n used => { (passed n).2 with retriesUsed := some used }
    let a := fun n => attempt (passed n).2 n
    let stopped := fun n byte => { a n with phase := .stop, lineStep := 2, refused := some byte }
    (∀ p ∈ [(0, a 0), (1, a 1), (5, a 5), (0, stopped 0 .data), (1, stopped 1 .address)],
      ∀ state ∈ [ConnState.on, .draining],
        let s := second state p.1 (.transferring p.2)
        s.resetting = none ∧ s.TagsDistinct ∧ s.conns[7].engine = .transferring p.2 ∧
        s.conns[7].queue = (passed p.1).1 ++ (passed p.1).2 :: [entry 22 .fence 8 .waiting] ∧
        (∀ x ∈ (passed p.1).1, x.state ≠ .active) ∧ (passed p.1).2.state = .active ∧ p.2.phase ≠ .busCheck ∧
        p.2.completed ≤ p.2.writeBytes.length + p.2.readCount.getD 0) ∧
      ((a 5).refused = none ∧ (a 5).completed = (a 5).writeBytes.length + (a 5).readCount.getD 0) ∧
      ((a 0).refused = none ∧ (a 0).completed < (a 0).writeBytes.length ∧ (a 0).sampled = []) ∧
      ((a 1).refused = none ∧ (a 1).phase = .repeatedStart) ∧
      ((e 0 2).budget = some 2 ∧ (e 0 2).retriesUsed = some 2) ∧
      ((passed 0).2.budget = some 2 ∧ (passed 0).2.retriesUsed = some 0) := by
  decide +kernel
theorem witness_RetryAbortAndPulseEnd :
    let e := entry 31 .write 8 .backoff
    let s := given 7 { onConn with queue := [entry 1 .postWrite 8 .waiting, e] }
    let b := given 7 { onConn with engine := .aborting (attempt e 0) .start, queue := [e] }
    let p := given 7
      { onConn with state := .draining, queue := [entry 3 .pulseReset 8 .active], engine := .pulsing 255, mrst := true }
    (s.resetting = none ∧ s.TagsDistinct ∧ s.conns[7].queue = [entry 1 .postWrite 8 .waiting] ++ e :: [] ∧
        e.state = .backoff ∧ e.retryTimer.isSome = true) ∧
      (b.TagsDistinct ∧ b.conns[7].engine = .aborting (attempt e 0) .start) ∧
      (p.TagsDistinct ∧ p.conns[7].engine = .pulsing 255 ∧ p.conns[7].queue = [] ++ entry 3 .pulseReset 8 .active :: [] ∧
        (entry 3 .pulseReset 8 .active).state = .active) := by decide +kernel
/-- Each kind of work, with the entry at work behind an older one on a connector in ON and in DRAINING, and with none at
work; the clock is waited for at the latest after four more line steps. -/
theorem witness_StretchLimitsAndClearsEnd :
    let a := attempt (passed 1).2 1
    let before := fun aborted => ClearPurpose.beforeTransfer { a with phase := .busCheck, completed := 0 } aborted
    let waits := fun (e : Engine) =>
      e.inPlace = true ∧ ∃ n ∈ List.range 4, (e.run (List.replicate n high)).stretchTimer = some 25
    (∀ state ∈ [ConnState.on, .draining], ∀ engine ∈ [Engine.transferring a, .clearing .requested ⟨.khz400, 8, .pulse, 2⟩,
        .clearing (before false) (BusClear.begun .khz100)],
      let s := second state 1 engine
      s.resetting = none ∧ s.TagsDistinct ∧ s.conns[7].engine = engine ∧ waits engine ∧
        s.conns[7].queue = (passed 1).1 ++ (passed 1).2 :: [entry 22 .fence 8 .waiting] ∧
        (∀ x ∈ (passed 1).1, x.state ≠ .active) ∧ (passed 1).2.state = .active) ∧
      (∀ engine ∈ [Engine.aborting a .repeatedStart, .clearing .afterStretch (BusClear.begun .khz100),
          .clearing (before true) (BusClear.begun .khz100), .clearing .requested ⟨.khz400, 9, .stop, 1⟩],
        let s := given 7 { onConn with queue := [entry 12 .write 8 .waiting], engine }
        s.TagsDistinct ∧ s.conns[7].engine = engine ∧ waits engine ∧ ∀ x ∈ s.conns[7].queue, x.state ≠ .active) ∧
      (BusClear.begun .khz100).result (List.replicate 9 false ++ [true]) high = some true ∧
      (BusClear.mk .khz100 8 .pulse 0).result [false] high = some false := by decide +kernel
/-- Where no wait is left before a report the limit is not reached: the end of a stop, an end of a clear, a byte due. -/
theorem witness_StretchLimitsAndClearsEnd_past :
    let a := attempt (passed 0).2 0
    ∀ e ∈ [Engine.transferring { a with phase := .stop, lineStep := 2, refused := some .data },
        .transferring { a with phase := .writeBytes, lineStep := 26, sampled := [false] },
        .clearing .afterStretch ⟨.khz100, 9, .ended false, 0⟩, .hung],
      e.inPlace = true ∧ ∀ r ∈ [high, low], e.run (List.replicate 9 r) = e ∧ e.stretchTimer = none := by decide +kernel

end Sys2Proof.Tests
end

section
/-! PROOFS. The slot map (O48): admission of a request that names no slot, and GET_SLOT_MAP's answer. -/

namespace Sys2Proof.Machine

/-! ### The bytes of a message -/

/-- The code byte of a message that has one. -/
theorem codeOf_of_head? {m : Message} {code : Byte} (h : m.head? = some code) : codeOf m = code := by
  cases m with
  | nil => cases h
  | cons b bs => exact Option.some.inj h

/-- The tag byte of a message, 0xFF where it has none (R52). -/
theorem tagOf_eq_getD (m : Message) : tagOf m = (m[1]?).getD 0xFF := by
  match m with
  | [] => rfl
  | [_] => rfl
  | _ :: _ :: _ => rfl

/-- A message carries its own code. -/
theorem hasCode_eq_true {m : Message} {code : Byte} : hasCode code m = true ↔ m.head? = some code := by
  simp [hasCode]

/-- A request without fields is two bytes, code and tag (R185). -/
theorem parseBare_of_length_eq {m : Message} (h : m.length = 2) : parseBare m = some () := by
  obtain ⟨code, tag, rfl⟩ := List.length_eq_two.1 h
  rfl

/-- No other length is one of a request without fields (R185). -/
theorem parseBare_of_length_ne {m : Message} (h : m.length ≠ 2) : parseBare m = none := by
  match m, h with
  | [], _ => rfl
  | [_], _ => rfl
  | [_, _], h => exact absurd rfl h
  | _ :: _ :: _ :: _, _ => rfl

/-! ### Taking the head message -/

/-- Checks 2 to 4 do not look at the admission queue (R53). -/
theorem State.earlyRefusal_taken (s : State) (tag : Byte) : s.taken.earlyRefusal tag = s.commonRefusal tag :=
  s.earlyRefusal_eq tag

/-- A refusal of the message taken is its answer with an empty body (R53). -/
theorem State.refuse_taken (s : State) (m : Message) (status : Status) :
    s.taken.refuse m status = s.answered (codeOf m) (tagOf m) status .empty := rfl

/-- A response after the message is taken is its answer. -/
theorem State.respond_taken (s : State) (code tag : Byte) (status : Status) (body : ResponseBody) :
    s.taken.respond { code, tag, status, body } = s.answered code tag status body := rfl

/-! ### Admission of a request that names no slot: the first check failed decides (R53) -/

section
variable {α : Type} {s : State} {m : Message} {rest : List Message} {accepts : Message → Bool}
  {parse : Message → Option α} {inRange : α → Bool} {act : State → Byte → α → State} {fields : α}

/-- Check 1 fails. -/
theorem State.admitPart_of_parse_none (hq : s.admissionQueue = m :: rest) (ha : accepts m = true)
    (hp : parse m = none) :
    s.admitPart accepts parse inRange act = s.answered (codeOf m) (tagOf m) .badLength .empty := by
  rw [State.admitPart, State.takeMessage_cons s _ _ m rest hq ha]
  simp only [hp, State.refuse_taken]

/-- Check 1 passes and one of checks 2 to 4 fails. -/
theorem State.admitPart_of_commonRefusal_some {status : Status} (hq : s.admissionQueue = m :: rest)
    (ha : accepts m = true) (hp : parse m = some fields) (hr : s.commonRefusal (tagOf m) = some status) :
    s.admitPart accepts parse inRange act = s.answered (codeOf m) (tagOf m) status .empty := by
  rw [State.admitPart, State.takeMessage_cons s _ _ m rest hq ha]
  simp only [hp, State.earlyRefusal_taken, hr, State.refuse_taken]

/-- Every check passes: the owner acts on the part with the message taken. -/
theorem State.admitPart_of_commonRefusal_none (hq : s.admissionQueue = m :: rest) (ha : accepts m = true)
    (hp : parse m = some fields) (hr : s.commonRefusal (tagOf m) = none) (hi : inRange fields = true) :
    s.admitPart accepts parse inRange act = act s.taken (tagOf m) fields := by
  rw [State.admitPart, State.takeMessage_cons s _ _ m rest hq ha]
  simp only [hp, State.earlyRefusal_taken, hr, hi, if_true]

end

/-! ### GET_SLOT_MAP -/

/-- Outside a device reset GET_SLOT_MAP is admitted as a request without fields, and its action is the answer alone
(R17). -/
theorem exec_getSlotMap {s : State} (h : s.resetting = none) :
    exec .getSlotMap s =
      .next (s.admitPart (hasCode 0x05) parseBare (fun _ => true) fun s tag _ =>
        s.respond { code := 0x05, tag, status := .ok, body := .slotMap s.slotMap s.strapDisabled }) :=
  calc
    exec .getSlotMap s = execGetSlotMap s := rfl
    _ = _ := State.whenRunning_running h _

/-- Settles O48: the length, then checks 2 to 4, then the answer with the table and the strap-disabled set (R17, R53). -/
theorem slotMapIsReported : Obligations.SlotMapIsReported := by
  unfold Obligations.SlotMapIsReported
  intro m rest s hrun hq hcode
  have ha : hasCode 0x05 m = true := hasCode_eq_true.2 hcode
  rw [exec_getSlotMap hrun, ← tagOf_eq_getD]
  refine congrArg Host.Outcome.next ?_
  by_cases hlen : m.length = 2
  · have hp := parseBare_of_length_eq hlen
    rw [if_neg (not_not.2 hlen)]
    cases hr : s.commonRefusal (tagOf m) with
    | some status => rw [State.admitPart_of_commonRefusal_some hq ha hp hr, codeOf_of_head? hcode]
    | none =>
      rw [State.admitPart_of_commonRefusal_none hq ha hp hr rfl]
      exact State.respond_taken s 0x05 (tagOf m) .ok (.slotMap s.slotMap s.strapDisabled)
  · rw [if_pos hlen, State.admitPart_of_parse_none hq ha (parseBare_of_length_ne hlen), codeOf_of_head? hcode]

end Sys2Proof.Machine
end

section
/-! PROOFS. Power requests (O49, O52): admission of a request that names a slot, the power actions on the whole part,
and the answer that follows them. -/

namespace Sys2Proof.Machine

/-! ### Admission of a request that names a slot -/

/-- Every check passes: the owner acts on the connector the slot leads to, with the message taken (R53). -/
theorem State.admitSlot_of_admits {α : Type} {s : State} {m : Message} {rest : List Message}
    {accepts : Message → Bool} {parse : Message → Option (Byte × α)} {inRange : α → Bool}
    {act : State → Byte → Byte → ConnId → α → State} {slot : Byte} {fields : α} {c : ConnId}
    (hadm : s.Admits (tagOf m)) (hq : s.admissionQueue = m :: rest) (ha : accepts m = true)
    (hp : parse m = some (slot, fields)) (hslot : s.resolve slot = some c) (hi : inRange fields = true) :
    s.admitSlot accepts parse inRange act = act s.taken (tagOf m) slot c fields := by
  have hearly : s.taken.earlyRefusal (tagOf m) = none := State.earlyRefusal_none (s := s.taken) hadm
  have hresolve : s.taken.resolve slot = some c := hslot
  rw [State.admitSlot, State.takeMessage_cons s _ _ m rest hq ha]
  simp only [hp, hearly, hresolve, hi, if_true]

/-! ### The power actions on the whole part -/

/-- A power cut with its sweep and transition (R22). -/
theorem State.onSite_powerCut_settle (s : State) (c : ConnId) (status : Status) (dest : ConnState) (cause : Cause)
    (counter : Fin 2) :
    (s.onSite c fun t => (t.powerCut status).settle dest cause counter) = s.cutTo c status dest cause counter := by
  rw [State.onSite_eq, Site.powerCut_settle]
  rfl

/-- A transition into a state without power (R18, R47). -/
theorem State.onSite_settle (s : State) (c : ConnId) (dest : ConnState) (cause : Cause) (counter : Fin 2) :
    (s.onSite c fun t => t.settle dest cause counter) = s.moved c dest cause counter := by
  rw [State.onSite_eq, Site.settle_eq]
  rfl

/-- Two actions that agree on the connector's site leave the same part. -/
theorem State.onSite_congr {s : State} {c : ConnId} {f g : Site → Site} (h : f (s.site c) = g (s.site c)) :
    s.onSite c f = s.onSite c g :=
  congrArg (s.putSite c) h

/-! Power off at once, by state (R39). -/

theorem Site.powerOffNow_of_powered {t : Site} (cause : Cause) (h : t.conn.state.powered = true) :
    t.powerOffNow cause = (t.powerCut .poweredOff).settle .off cause 0 := by
  unfold Site.powerOffNow
  cases hk : t.conn.state with
  | powering | on | draining => rfl
  | unused | empty | off | cooldown | faulted => rw [hk] at h; cases h

theorem Site.powerOffNow_of_cooldown {t : Site} (cause : Cause) (h : t.conn.state = .cooldown) :
    t.powerOffNow cause = t.settle .off cause 0 := by
  simp only [Site.powerOffNow, h]

theorem Site.powerOffNow_of_unpowered {t : Site} (cause : Cause) (h : t.conn.state.powered = false)
    (hc : t.conn.state ≠ .cooldown) : t.powerOffNow cause = t := by
  unfold Site.powerOffNow
  cases hk : t.conn.state with
  | powering | on | draining => rw [hk] at h; cases h
  | cooldown => exact absurd hk hc
  | unused | empty | off | faulted => rfl

/-- Power off at once acts on the connector's own site. -/
@[simp] theorem Site.powerOffNow_id (t : Site) (cause : Cause) : (t.powerOffNow cause).id = t.id := by
  by_cases hp : t.conn.state.powered = true
  · rw [Site.powerOffNow_of_powered cause hp, Site.powerCut_settle]
  · by_cases hc : t.conn.state = .cooldown
    · rw [Site.powerOffNow_of_cooldown cause hc, Site.settle_eq]
    · rw [Site.powerOffNow_of_unpowered cause (by simpa using hp) hc]

/-- Clearing a fault acts on the connector's own site. -/
@[simp] theorem Site.clearFault_id (t : Site) : t.clearFault.id = t.id := by
  unfold Site.clearFault
  split
  · rw [Site.settle_eq]
  · rfl

/-- Power off at once from a state with power: the cut and its sweep (R39). -/
theorem State.onSite_powerOffNow_of_powered {s : State} {c : ConnId} (cause : Cause)
    (h : s.conns[c].state.powered = true) :
    (s.onSite c fun t => t.powerOffNow cause) = s.cutTo c .poweredOff .off cause 0 := by
  rw [← State.onSite_powerCut_settle]
  exact State.onSite_congr (Site.powerOffNow_of_powered cause h)

/-- Power off at once from COOLDOWN: the retry delay stops (R39). -/
theorem State.onSite_powerOffNow_of_cooldown {s : State} {c : ConnId} (cause : Cause)
    (h : s.conns[c].state = .cooldown) :
    (s.onSite c fun t => t.powerOffNow cause) = s.moved c .off cause 0 := by
  rw [← State.onSite_settle]
  exact State.onSite_congr (Site.powerOffNow_of_cooldown cause h)

/-- Power off at once has no effect elsewhere (R39). -/
theorem State.onSite_powerOffNow_of_unpowered {s : State} {c : ConnId} (cause : Cause)
    (h : s.conns[c].state.powered = false) (hc : s.conns[c].state ≠ .cooldown) :
    (s.onSite c fun t => t.powerOffNow cause) = s :=
  State.onSite_self (Site.powerOffNow_of_unpowered cause h hc)

/-- On the whole part, SLOT_CLEAR_FAULT's action (R42). -/
theorem State.onSite_clearFault (s : State) (c : ConnId) :
    s.onSite c Site.clearFault = if s.conns[c].state = .faulted then s.moved c .off .faultCleared 0 else s := by
  by_cases h : s.conns[c].state = .faulted
  · rw [if_pos h, ← State.onSite_settle]
    exact State.onSite_congr (if_pos h)
  · rw [if_neg h]
    exact State.onSite_self (if_neg h)

/-! ### The answer to a power request -/

/-- A power action with its response, run with the message taken, is the action's effect answered with the state and
counter it leaves (R43). -/
theorem State.onSite_answerPower {s t : State} {c : ConnId} {act : Site → Site} (hact : s.onSite c act = t)
    (hid : (act (s.site c)).id = c) (code tag slot : Byte) (status : Status) :
    (s.taken.onSite c fun u => (act u).answerPower code tag slot status) =
      t.answeredPower c code tag slot status := by
  subst hact
  have htaken : (act (s.taken.site c)).id = c := hid
  rw [State.answeredPower, State.onSite_conns_self, State.onSite_eq]
  simp only [Site.answerPower, htaken]
  rfl

/-! ### SLOT_POWER_OFF in mode ABORT, and SLOT_CLEAR_FAULT -/

section
variable {tag slot : Byte} {c : ConnId} {rest : List Message} {s : State}

/-- An admitted SLOT_POWER_OFF in mode ABORT cuts the power at once and is answered OK (R39, R43). -/
theorem exec_slotPowerOffAbort (hadm : s.Admits tag) (hq : s.admissionQueue = [0x09, tag, slot, 0x00] :: rest)
    (hslot : s.resolve slot = some c) :
    exec .slotPowerOffAbort s =
      .next ((s.onSite c fun t => t.powerOffNow .hostOff).answeredPower c 0x09 tag slot .ok) :=
  calc
    exec .slotPowerOffAbort s = execSlotPowerOffAbort s := rfl
    _ = _ := State.whenRunning_running hadm.1 _
    _ = .next (s.taken.onSite c fun t => (t.powerOffNow .hostOff).answerPower 0x09 tag slot .ok) :=
      congrArg Host.Outcome.next (State.admitSlot_of_admits hadm hq rfl rfl hslot rfl)
    _ = _ := congrArg Host.Outcome.next (State.onSite_answerPower rfl (Site.powerOffNow_id _ _) 0x09 tag slot .ok)

/-- An admitted SLOT_CLEAR_FAULT clears the fault, if there is one, and is answered OK (R42, R43). -/
theorem exec_slotClearFault (hadm : s.Admits tag) (hq : s.admissionQueue = [0x0A, tag, slot] :: rest)
    (hslot : s.resolve slot = some c) :
    exec .slotClearFault s =
      .next ((s.onSite c Site.clearFault).answeredPower c 0x0A tag slot .ok) :=
  calc
    exec .slotClearFault s = execSlotClearFault s := rfl
    _ = _ := State.whenRunning_running hadm.1 _
    _ = .next (s.taken.onSite c fun t => t.clearFault.answerPower 0x0A tag slot .ok) :=
      congrArg Host.Outcome.next (State.admitSlot_of_admits hadm hq rfl rfl hslot rfl)
    _ = _ := congrArg Host.Outcome.next (State.onSite_answerPower rfl (Site.clearFault_id _) 0x0A tag slot .ok)

end

/-- Settles O49: the answer is that of the action's effect, which the state the request finds decides (R39). -/
theorem powerOffAbortByState : Obligations.PowerOffAbortByState := by
  unfold Obligations.PowerOffAbortByState
  intro tag slot c rest s hadm hq hslot _
  rw [exec_slotPowerOffAbort hadm hq hslot]
  cases h : s.conns[c].state with
  | powering | on | draining => rw [State.onSite_powerOffNow_of_powered .hostOff (by rw [h]; rfl)]
  | cooldown => rw [State.onSite_powerOffNow_of_cooldown .hostOff h]
  | unused | empty | off | faulted =>
    rw [State.onSite_powerOffNow_of_unpowered .hostOff (by rw [h]; rfl) (by rw [h]; decide)]

/-- Settles O52: the fault is cleared in FAULTED alone, and the answer is OK in every state (R42, R43). -/
theorem clearFaultByState : Obligations.ClearFaultByState := by
  unfold Obligations.ClearFaultByState
  intro tag slot c rest s hadm hq hslot
  rw [exec_slotClearFault hadm hq hslot, State.onSite_clearFault]

end Sys2Proof.Machine
end

section
/-! PROOFS. DATA frames (O34): what each rule of the receiver does to the Link Interface, the receive rule case by case
(R148), and DATA_FRAME by link state. -/

namespace Sys2Proof.Machine

/-! ### What each rule does to the Link Interface, in the terms of Safety.lean -/

/-- A cause waits once: asking for it again adds nothing (R139). -/
theorem Link.addNak_eq_nakking (l : Link) (cause : NakCause) : l.addNak cause = l.nakking cause := by
  by_cases h : cause ∈ l.naks
  · rw [Link.addNak, Link.nakking, if_pos (List.contains_iff_mem.2 h), if_pos h]
  · rw [Link.addNak, Link.nakking, if_neg (mt List.contains_iff_mem.1 h), if_neg h]

/-- A protocol error is counted in a counter that stops at 65535 (R165). -/
theorem Link.protocolError_eq_erred (l : Link) : l.protocolError = l.erred := by
  rw [Link.protocolError, LinkCounters.addProtocolError, bump_eq_min]
  rfl

/-- A protocol error leaves the spacing timer (R165). -/
@[simp] theorem Link.erred_spacing (l : Link) : l.erred.spacing = l.spacing := rfl

/-- A DATA frame in START or DOWN, by the spacing timer (R147). -/
theorem Link.unsyncedData_eq (l : Link) :
    l.unsyncedData =
      if l.spacing = none then { l.erred.nakking .unsynced with spacing := some 100 } else l.erred := by
  simp only [Link.unsyncedData, Link.addNak_eq_nakking, Link.protocolError_eq_erred, Link.erred_spacing,
    Option.isNone_iff_eq_none, Config.unsyncedSpacingMs]

/-- The distances that make a duplicate (R148). -/
theorem Link.isDuplicate_iff (l : Link) (n : Seq) :
    l.isDuplicate n = true ↔ 1 ≤ (l.expected - n).toNat ∧ (l.expected - n).toNat ≤ 8 :=
  decide_eq_true_iff

/-- A duplicate is counted in a counter that stops at 65535, and acknowledged again (R148). -/
theorem Link.duplicate_eq (l : Link) :
    l.duplicate =
      { l with
        ackPending := true
        counters := { l.counters with duplicates := min (l.counters.duplicates + 1) 65535 } } := by
  rw [Link.duplicate, LinkCounters.addDuplicate, bump_eq_min]
  rfl

/-- A gap is counted in a counter that stops at 65535. -/
theorem LinkCounters.addGap_eq (k : LinkCounters) : k.addGap = { k with gaps := min (k.gaps + 1) 65535 } := by
  rw [LinkCounters.addGap, bump_eq_min]
  rfl

/-- A gap makes a NAK(GAP) wait where none was asked for since the flag was cleared (R151). -/
theorem Link.gap_eq (l : Link) :
    l.gap =
      let g := { l with counters := { l.counters with gaps := min (l.counters.gaps + 1) 65535 } }
      if l.gapNakSent then g else { g.nakking .gap with gapNakSent := true } := by
  simp only [Link.gap, Link.addNak_eq_nakking, LinkCounters.addGap_eq]

/-! ### The receive rule, case by case (R148) -/

section
variable {s : State} {n : Seq} (payload : Message)

/-- The number expected, with a place free: acceptance (R149). -/
theorem State.receiveData_of_free (hn : n = s.link.expected) (hfree : s.placesInUse < 64) :
    s.receiveData n payload =
      { s.withLink s.link.accept with admissionQueue := s.admissionQueue ++ [payload] } := by
  rw [State.receiveData, if_pos hn]
  exact if_pos hfree

/-- The number expected, with no place free: a hold (R150). -/
theorem State.receiveData_of_full (hn : n = s.link.expected) (hfull : ¬s.placesInUse < 64) :
    s.receiveData n payload = s.withLink (s.link.nakking .hold) := by
  rw [State.receiveData, if_pos hn, Link.addNak_eq_nakking]
  exact if_neg hfull

/-- A number 1 to 8 behind the one expected: a duplicate. -/
theorem State.receiveData_of_duplicate (hn : n ≠ s.link.expected) (hdup : s.link.isDuplicate n = true) :
    s.receiveData n payload = s.withLink s.link.duplicate := by
  rw [State.receiveData, if_neg hn, if_pos hdup]
  rfl

/-- Any other number: a gap. -/
theorem State.receiveData_of_gap (hn : n ≠ s.link.expected) (hdup : ¬s.link.isDuplicate n = true) :
    s.receiveData n payload = s.withLink s.link.gap := by
  rw [State.receiveData, if_neg hn, if_neg hdup]
  rfl

end

/-! ### DATA_FRAME -/

/-- The part as a received frame leaves it for the frame's rule: the receiver hunts again (R141). -/
def State.heard (s : State) : State := s.withLink { s.link with rx := .hunting }

/-- A step about a received frame gives its rule the part that has heard the frame (R141). -/
theorem State.onFrame_of_receivedFrame {s : State} {raw : List RxByte} {frame : HostFrame}
    (hrx : receivedFrame s.link.rx raw = some frame) (f : State → HostFrame → State) :
    s.onFrame raw f = f s.heard frame := by
  rw [State.onFrame, hrx]
  rfl

section
variable {s : State} {raw : List RxByte} {n : Seq} {payload : Message}

/-- A DATA frame in UP goes to the receive rule (R144). -/
theorem exec_dataFrame_of_up (hrun : s.resetting = none)
    (hrx : receivedFrame s.link.rx raw = some (.data n payload)) (hup : s.link.state = .up) :
    exec (.dataFrame raw) s = .next (s.heard.receiveData n payload) := by
  have hstate : s.heard.link.state = .up := hup
  calc
    exec (.dataFrame raw) s = execDataFrame raw s := rfl
    _ = _ := State.whenRunning_running hrun _
    _ = _ := congrArg Host.Outcome.next (State.onFrame_of_receivedFrame hrx _)
    _ = _ := by simp only [hstate]

/-- A DATA frame in START or DOWN changes the Link Interface alone (R144, R147). -/
theorem exec_dataFrame_of_not_up (hrun : s.resetting = none)
    (hrx : receivedFrame s.link.rx raw = some (.data n payload)) (hup : s.link.state ≠ .up) :
    exec (.dataFrame raw) s = .next (s.withLink s.heard.link.unsyncedData) := by
  have hstate : s.heard.link.state = s.link.state := rfl
  calc
    exec (.dataFrame raw) s = execDataFrame raw s := rfl
    _ = _ := State.whenRunning_running hrun _
    _ = _ := congrArg Host.Outcome.next (State.onFrame_of_receivedFrame hrx _)
    _ = _ := by
      cases h : s.link.state with
      | up => exact absurd h hup
      | start | down => simp only [hstate, h]; rfl

end

/-- Settles O34: by the link state, then by the number, then by the free places, or by the distance behind E (R147 to
R151). -/
theorem dataFrameIsHandled : Obligations.DataFrameIsHandled := by
  unfold Obligations.DataFrameIsHandled
  intro raw n payload s hrun hrx l
  by_cases hup : l.state = .up
  · rw [exec_dataFrame_of_up hrun hrx hup, if_neg (not_not.2 hup)]
    refine congrArg Host.Outcome.next ?_
    by_cases hn : n = l.expected
    · rw [if_pos hn]
      by_cases hfree : s.placesInUse < 64
      · rw [if_pos hfree]
        exact State.receiveData_of_free (s := s.heard) payload hn hfree
      · rw [if_neg hfree]
        exact State.receiveData_of_full (s := s.heard) payload hn hfree
    · rw [if_neg hn]
      by_cases hdup : 1 ≤ (l.expected - n).toNat ∧ (l.expected - n).toNat ≤ 8
      · rw [if_pos hdup, ← Link.duplicate_eq]
        exact State.receiveData_of_duplicate (s := s.heard) payload hn ((l.isDuplicate_iff n).2 hdup)
      · rw [if_neg hdup, State.receiveData_of_gap (s := s.heard) payload hn (mt (l.isDuplicate_iff n).1 hdup)]
        exact congrArg s.withLink l.gap_eq
  · rw [exec_dataFrame_of_not_up hrun hrx hup, if_pos hup, ← Link.unsyncedData_eq]
    rfl

end Sys2Proof.Machine
end

section
/-! PROOFS. Actions of one connector's blocks one after another: which connector and slot they belong to, and entries
found by tag or by state in a Slot Queue. -/

namespace Sys2Proof.Machine

/-! ### Where a connector's blocks act -/

/-- The connector and the slot a site belongs to; no action of the connector's blocks changes them (R1). -/
def Site.place (t : Site) : ConnId × Nat := (t.id, t.slot)

@[simp] theorem Site.place_fst (t : Site) : t.place.1 = t.id := rfl
@[simp] theorem Site.place_snd (t : Site) : t.place.2 = t.slot := rfl
@[simp] theorem Site.setConn_place (t : Site) (k : Connector) : (t.setConn k).place = t.place := rfl
@[simp] theorem Site.raise_place (t : Site) (e : Event) : (t.raise e).place = t.place := rfl
@[simp] theorem Site.respond_place (t : Site) (r : Response) : (t.respond r).place = t.place := rfl
@[simp] theorem Site.enter_place (t : Site) (dest : ConnState) (cause : Cause) : (t.enter dest cause).place = t.place :=
  rfl
@[simp] theorem Site.free_place (t : Site) (tag : Byte) : (t.free tag).place = t.place := rfl
@[simp] theorem Site.updateEntry_place (t : Site) (tag : Byte) (f : Entry → Entry) :
    (t.updateEntry tag f).place = t.place := rfl
@[simp] theorem Site.updateActive_place (t : Site) (f : Entry → Entry) : (t.updateActive f).place = t.place := rfl
@[simp] theorem Site.activate_place (t : Site) (tag : Byte) (engine : Engine) :
    (t.activate tag engine).place = t.place := rfl
@[simp] theorem Site.settle_place (t : Site) (dest : ConnState) (cause : Cause) (counter : Fin 2) :
    (t.settle dest cause counter).place = t.place := rfl
@[simp] theorem Site.answerPower_place (t : Site) (code tag slot : Byte) (status : Status) :
    (t.answerPower code tag slot status).place = t.place := rfl

@[simp] theorem Site.reportEnd_place (t : Site) (e : Entry) (status : Status) (data : List Byte) :
    (t.reportEnd e status data).place = t.place := by
  rw [Site.reportEnd_eq]; rfl

@[simp] theorem Site.powerCut_place (t : Site) (status : Status) : (t.powerCut status).place = t.place := by
  rw [Site.powerCut, Site.sweep_eq]; rfl

@[simp] theorem Site.drainCheck_place (t : Site) : t.drainCheck.place = t.place := by
  unfold Site.drainCheck; split <;> simp

@[simp] theorem Site.endEntry_place (t : Site) (e : Entry) (status : Status) (data : List Byte) :
    (t.endEntry e status data).place = t.place := by
  simp [Site.endEntry]

@[simp] theorem Site.releaseReset_place (t : Site) : t.releaseReset.place = t.place := by
  unfold Site.releaseReset; split <;> rfl

@[simp] theorem Site.abort_place (t : Site) : t.abort.place = t.place := by
  unfold Site.abort; split <;> simp

@[simp] theorem Site.withdraw_place (t : Site) (e : Entry) (status : Status) :
    (t.withdraw e status).place = t.place := by
  unfold Site.withdraw; split <;> simp

@[simp] theorem Site.launch_place (t : Site) (e : Entry) (lines : BusLines) : (t.launch e lines).place = t.place := by
  unfold Site.launch; split <;> simp

@[simp] theorem Site.decideStarts_place (n : Nat) (t : Site) (lines : BusLines) :
    (Site.decideStarts n t lines).place = t.place := by
  induction n generalizing t with
  | zero => rfl
  | succ n ih =>
    unfold Site.decideStarts
    split
    · split
      · rfl
      · split <;> simp [ih]
    · rfl

@[simp] theorem Site.startDecision_place (t : Site) (lines : BusLines) : (t.startDecision lines).place = t.place :=
  Site.decideStarts_place _ t lines

@[simp] theorem Site.attentionCheck_place (t : Site) : t.attentionCheck.place = t.place := by
  unfold Site.attentionCheck; split <;> rfl

@[simp] theorem Site.endActive_place (t : Site) (acked : Entry → Nat) (status : Status) (data : List Byte) :
    (t.endActive acked status data).place = t.place := by
  unfold Site.endActive; split <;> simp

@[simp] theorem Site.nowOn_place (t : Site) (lines : BusLines) : (t.nowOn lines).place = t.place := by
  simp [Site.nowOn]

@[simp] theorem Site.powerGood_place (t : Site) (lines : BusLines) : (t.powerGood lines).place = t.place := by
  simp [Site.powerGood]

@[simp] theorem Site.powerUp_place (t : Site) (cause : Cause) (lines : BusLines) :
    (t.powerUp cause lines).place = t.place := by
  simp only [Site.powerUp]; split <;> simp

@[simp] theorem Site.powerOn_place (t : Site) (lines : BusLines) : (t.powerOn lines).place = t.place := by
  unfold Site.powerOn; split <;> simp

/-- One action after another is an action of the same connector's blocks. -/
theorem State.onSite_onSite {s : State} {c : ConnId} {f : Site → Site} (g : Site → Site)
    (hf : (f (s.site c)).place = (s.site c).place) :
    (s.onSite c f).onSite c g = s.onSite c fun t => g (f t) := by
  have hsite : (s.onSite c f).site c = f (s.site c) := by
    obtain ⟨hid, hslot⟩ := Prod.mk.inj hf
    rw [State.site, State.onSite_conns_self]
    exact (congrArg₂ (fun i n => Site.mk i n (f (s.site c)).conn (f (s.site c)).out) hid hslot).symm
  rw [State.onSite_eq, hsite, State.onSite_eq, State.onSite_eq]
  simp [State.withConn, State.withOut]

/-! ### Entries found in a Slot Queue -/

section
variable {older younger : List Entry} {e : Entry} {p : Entry → Bool}

/-- The first entry of a kind, with those before and behind it. -/
theorem find?_append_cons (ho : ∀ x ∈ older, p x = false) (he : p e = true) :
    (older ++ e :: younger).find? p = some e := by
  rw [List.find?_append, List.find?_eq_none.2 (by simpa using ho)]
  simp [he]

/-- The first entry of a kind is changed in its place. -/
theorem updateFirst_append_cons (f : Entry → Entry) (ho : ∀ x ∈ older, p x = false) (he : p e = true) :
    updateFirst p f (older ++ e :: younger) = older ++ f e :: younger := by
  induction older with
  | nil => simp [updateFirst, he]
  | cons x older ih =>
    rw [List.cons_append, updateFirst, if_neg (by simp [ho x]), ih fun y hy => ho y (by simp [hy])]
    rfl

/-- The first entry of a kind leaves, and the others keep their order. -/
theorem eraseP_append_cons (ho : ∀ x ∈ older, p x = false) (he : p e = true) :
    (older ++ e :: younger).eraseP p = older ++ younger := by
  rw [List.eraseP_append_right _ (by simpa using ho), List.eraseP_cons_of_pos he]

/-- Where no two entries share a tag, an entry's tag is not met before it. -/
theorem tag_ne_of_nodup (h : ((older ++ e :: younger).map fun x => x.tag).Nodup) :
    ∀ x ∈ older, (x.tag == e.tag) = false := by
  intro x hx
  rw [List.map_append, List.map_cons, List.nodup_append] at h
  simpa using h.2.2 x.tag (List.mem_map_of_mem hx) e.tag (by simp)

end

/-- The tags of one connector's entries. -/
def Connector.tags (k : Connector) : List Byte := k.queue.map fun e => e.tag

/-- Distinct tags in the pool are distinct on each connector (R58). -/
theorem State.TagsDistinct.conn {s : State} (h : s.TagsDistinct) (c : ConnId) : s.conns[c].tags.Nodup :=
  (List.nodup_flatMap.1 h.1).1 _ (by simp)

/-- Where tags are distinct, two connectors do not hold one tag (R58). -/
theorem State.TagsDistinct.conn_unique {s : State} (h : s.TagsDistinct) {tag : Byte} {c d : ConnId}
    (hc : tag ∈ s.conns[c].tags) (hd : tag ∈ s.conns[d].tags) : c = d := by
  by_contra hne
  have hp := (List.nodup_flatMap.1 h.1).2
  rw [List.pairwise_iff_getElem] at hp
  have hv : (c : Nat) ≠ d := fun hcd => hne (Fin.ext hcd)
  rcases Nat.lt_or_gt_of_ne hv with hlt | hlt
  · exact hp c d (by simp) (by simp) hlt hc hd
  · exact hp d c (by simp) (by simp) hlt hd hc

/-- The connector found for a tag is the one that holds the entry (R58). -/
theorem State.tagHolder_of_mem {s : State} (h : s.TagsDistinct) {tag : Byte} {c : ConnId} (hc : tag ∈ s.conns[c].tags) :
    s.tagHolder tag = some c := by
  cases hh : s.tagHolder tag with
  | none => exact absurd ((s.mem_tags tag).2 ⟨c, hc⟩) ((s.tagHolder_eq_none tag).1 hh)
  | some d => rw [h.conn_unique (State.tagHolder_some hh) hc]

/-- The entry found for a tag is the one that holds it (R58). -/
theorem Connector.entryOf_of_queue {k : Connector} {older younger : List Entry} {e : Entry}
    (hq : k.queue = older ++ e :: younger) (hd : k.tags.Nodup) : k.entryOf e.tag = some e := by
  rw [Connector.tags, hq] at hd
  rw [Connector.entryOf, hq]
  exact find?_append_cons (tag_ne_of_nodup hd) (by simp)

/-- The ACTIVE entry is the first that is ACTIVE (R75). -/
theorem Connector.activeEntry_of_queue {k : Connector} {older younger : List Entry} {e : Entry}
    (hq : k.queue = older ++ e :: younger) (ho : ∀ x ∈ older, x.state ≠ .active) (he : e.state = .active) :
    k.activeEntry = some e := by
  rw [Connector.activeEntry, hq]
  exact find?_append_cons (by simpa using ho) (by simp [he])

/-- No entry is ACTIVE. -/
theorem Connector.activeEntry_eq_none {k : Connector} : k.activeEntry = none ↔ ∀ x ∈ k.queue, x.state ≠ .active := by
  simp [Connector.activeEntry]

/-- The ACTIVE entry stands in its queue. -/
theorem Connector.activeEntry_some {k : Connector} {e : Entry} (h : k.activeEntry = some e) :
    e ∈ k.queue ∧ e.state = .active :=
  ⟨List.mem_of_find?_eq_some h, by simpa using List.find?_some h⟩

/-- The entry found for a tag stands in its queue. -/
theorem Connector.entryOf_some {k : Connector} {tag : Byte} {e : Entry} (h : k.entryOf tag = some e) :
    e ∈ k.queue ∧ e.tag = tag :=
  ⟨List.mem_of_find?_eq_some h, by simpa using List.find?_some h⟩

end Sys2Proof.Machine
end

section
/-! PROOFS. What one connector's blocks can do: the moves that every action of theirs is made of. Each move is a whole
transition, so that the invariants of a connector hold before and after each of them. -/

namespace Sys2Proof.Machine

/-! ### The engine leaves its work -/

/-- An engine leaves the work in hand: its work ends, is aborted, or gives way to a clear (R110, R111, R113, R115 to
R117). -/
inductive Engine.Drops : Engine → Engine → Prop
  | attemptEnds (a : Attempt) : Drops (.transferring a) .idle
  | pulseEnds (ms : Nat) : Drops (.pulsing ms) .idle
  | abortEnds (a : Attempt) (finishing : BusElement) : Drops (.aborting a finishing) .idle
  | clearEnds (purpose : ClearPurpose) (b : BusClear) : Drops (.clearing purpose b) .idle
  | clearFails (purpose : ClearPurpose) (b : BusClear) : Drops (.clearing purpose b) .hung
  | attemptStretched (a : Attempt) : Drops (.transferring a) (.clearing .afterStretch (BusClear.begun a.speed))
  | abortStretched (a : Attempt) (finishing : BusElement) :
      Drops (.aborting a finishing) (.clearing .afterStretch (BusClear.begun a.speed))
  | attemptAborted (a : Attempt) : Drops (.transferring a) (.aborting a a.finishing)
  | clearAborted (a : Attempt) (aborted : Bool) (b : BusClear) :
      Drops (.clearing (.beforeTransfer a aborted) b) (.clearing (.beforeTransfer a true) b)

/-- The engine works for the ACTIVE entry in a way that an abort of the entry ends (R91). -/
def Engine.abortable : Engine → Bool
  | .transferring _ | .pulsing _ | .clearing (.beforeTransfer _ _) _ => true
  | .clearing .requested _ | .clearing .afterStretch _ | .off | .idle | .aborting _ _ | .hung => false

/-- The engine works for an entry no more: in an abort, and in a clear after a stretch limit or an abort (R113, R115,
R116). -/
def Engine.abandoned : Engine → Bool
  | .aborting _ _ | .clearing .afterStretch _ | .clearing (.beforeTransfer _ true) _ => true
  | .clearing (.beforeTransfer _ false) _ | .clearing .requested _ | .transferring _ | .pulsing _ | .off | .idle
  | .hung => false

/-- The connector as its engine leaves the work in hand for another state; a pulse that ends releases MRST_N in ON and
DRAINING (R21). -/
def Connector.dropWork (k : Connector) (engine : Engine) : Connector :=
  { k with engine, mrst := k.mrst && !(k.engine.isPulsing && k.state.usable) }

/-! ### Moves -/

/-- One whole transition of a connector's blocks, with what it does to the Outbound Unit. -/
inductive Site.Move : Site → Site → Prop
  | presence (t : Site) (asserted : Bool) : Move t (t.presenceInput asserted)
  | attention (t : Site) (asserted : Bool) : Move t (t.attnInput asserted)
  | steady (t : Site) (h : t.conn.attnTimer.isSome = true) :
      Move t (t.setConn { t.conn with attnTimer := none, steady := true }).attentionCheck
  | arm (t : Site) : Move t (t.setConn { t.conn with armed := true }).attentionCheck
  | configure (t : Site) (config : SlotConfig) (h : config.inRange = true) : Move t (t.setConn { t.conn with config })
  | review (t : Site) (oc pg : Bool) (inrush : Timer) (hi : inrush = t.conn.inrush ∨ inrush = none)
      (hq : t.conn.faultCondition = false →
        { t.conn with ocAsserted := oc, pgAsserted := pg, inrush }.faultCondition = true → t.conn.config.qualifyMs ≠ 0) :
      Move t
        ((t.setConn { t.conn with ocAsserted := oc, pgAsserted := pg, inrush }).reviewFault t.conn.faultCondition)
  | unqualify (t : Site) (h : t.conn.state.powered = false) : Move t (t.setConn { t.conn with qualify := none })
  | window (t : Site) (h : t.conn.state.usable = true) :
      Move t (t.setConn { t.conn with cooldown := none, faultCounter := 0 })
  | cut (t : Site) (oc pg : Bool) (inrush qualify debounce : Timer) (status : Status) (dest : ConnState) (cause : Cause)
      (counter : Fin 2) (hp : t.conn.state.powered = true)
      (hd : (dest = .off ∧ debounce = t.conn.debounce ∧ counter = 0) ∨
        (dest = .faulted ∧ debounce = t.conn.debounce) ∨
        (dest = .empty ∧ debounce = none ∧ t.conn.debounce.isSome = true ∧ counter = 0)) :
      Move t
        (((t.setConn
          { t.conn with ocAsserted := oc, pgAsserted := pg, inrush, qualify, debounce }).powerCut status).settle
            dest cause counter)
  | cutToRetry (t : Site) (oc pg : Bool) (inrush qualify : Timer) (status : Status) (cause : Cause) (delay : Nat)
      (hp : t.conn.state.powered = true) (u : Site)
      (hu : u =
        ((t.setConn { t.conn with ocAsserted := oc, pgAsserted := pg, inrush, qualify }).powerCut status).settle
          .cooldown cause 1) :
      Move t (u.setConn { u.conn with cooldown := some delay })
  | settle (t : Site) (debounce : Timer) (dest : ConnState) (cause : Cause) (hp : t.conn.state.powered = false)
      (hm : t.conn.state ≠ .unused) (hdest : dest = .off ∨ dest = .empty)
      (hd : (debounce = t.conn.debounce ∧ dest.present = t.conn.state.present) ∨
        (debounce = none ∧ t.conn.debounce.isSome = true ∧ dest.present = !t.conn.state.present)) :
      Move t ((t.setConn { t.conn with debounce }).settle dest cause 0)
  | powerUp (t : Site) (cause : Cause) (h : t.conn.state = .off ∨ t.conn.state = .cooldown) :
      Move t
        ((t.setConn
          { t.conn with
            pen := true
            mrst := true
            inrush := some t.conn.config.inrushMs
            pgDeadline := some t.conn.config.pgDeadlineMs
            cooldown := none }).enter .powering cause)
  | powerGood (t : Site) (h : t.conn.state = .powering) (hpg : t.conn.pgAsserted = true) (window : Timer)
      (hw : window =
        if t.conn.faultCounter = 1 then some (10 * t.conn.config.recurrenceWindow) else t.conn.cooldown) :
      Move t
        ((t.setConn { t.conn with pgDeadline := none, mrst := false, engine := .idle, cooldown := window }).enter
          .on .powerGood).attentionCheck
  | resume (t : Site) (h : t.conn.state = .draining) : Move t (t.enter .on .hostOn).attentionCheck
  | drain (t : Site) (h : t.conn.state = .on) (hq : t.conn.queue ≠ []) : Move t (t.enter .draining .hostDrain)
  | start (t : Site) (e : Entry) (lines : BusLines) (hm : t.conn.mayStart = true) (hc : t.conn.chosen = some e)
      (he : endsAtStart t.conn.engine e.kind = none) : Move t (t.launch e lines)
  | beginTransfer (t : Site) (a : Attempt) (b : BusClear) (h : t.conn.engine = .clearing (.beforeTransfer a false) b) :
      Move t (t.setConn { t.conn with engine := .transferring a.begun })
  | byte (t : Site) (a a' : Attempt) (value : Byte) (h : t.conn.engine = .transferring a)
      (ha : a.complete value = some a') :
      Move t
        ((t.setConn { t.conn with engine := .transferring a' }).updateActive fun e => { e with acked := a'.completed })
  | backoff (t : Site) (a : Attempt) (e : Entry) (timer : Timer) (h : t.conn.engine = .transferring a)
      (he : t.conn.activeEntry = some e) :
      Move t
        ((t.setConn { t.conn with engine := .idle }).updateActive fun e =>
          { e with
            state := .backoff
            acked := 0
            retriesUsed := e.retriesUsed.map fun used => used + 1
            retryTimer := timer })
  | retry (t : Site) (tag : Byte) (e : Entry) (he : t.conn.entryOf tag = some e) (hs : e.state = .backoff) :
      Move t (t.updateEntry tag fun e => { e with state := .waiting, retryTimer := none })
  | leaveWork (t : Site) (engine : Engine) (h : t.conn.activeEntry = none ∨ t.conn.engine.abandoned = true)
      (hd : Engine.Drops t.conn.engine engine) : Move t (t.setConn (t.conn.dropWork engine))
  | endEntry (t : Site) (e : Entry) (acked : Nat) (status : Status) (data : List Byte) (he : e ∈ t.conn.queue)
      (hw : e.state = .active → t.conn.engine.abortable = false) :
      Move t (t.endEntry { e with acked } status data)
  | endWork (t : Site) (e : Entry) (acked : Nat) (status : Status) (data : List Byte) (engine : Engine)
      (he : e ∈ t.conn.queue) (ha : e.state = .active) (hd : Engine.Drops t.conn.engine engine) :
      Move t ((t.setConn (t.conn.dropWork engine)).endEntry { e with acked } status data)

/-- Moves one after another. -/
abbrev Site.Moves : Site → Site → Prop := Relation.ReflTransGen Site.Move

theorem Site.Move.moves {t u : Site} (h : Site.Move t u) : Site.Moves t u := .single h

/-! ### Attention, ends of entries and drains, by the connector they leave -/

/-- The armed flag is cleared where the attention is due (R45). -/
theorem Site.attentionCheck_conn (t : Site) :
    t.attentionCheck.conn = { t.conn with armed := t.conn.armed && !(t.conn.state.usable && t.conn.steady) } := by
  unfold Site.attentionCheck
  split
  next h =>
    obtain ⟨hu, -, hs⟩ := h
    simp [hu, hs]
  next h =>
    obtain ⟨id, slot, conn, out⟩ := t
    obtain ⟨⟩ := conn
    simp_all
    grind

/-- A presence input moves the debounce timer of a mapped connector (R25). -/
theorem Site.presenceInput_conn (t : Site) (asserted : Bool) :
    (t.presenceInput asserted).conn =
      { t.conn with
        presAsserted := asserted
        debounce :=
          if t.conn.isMapped then { t.conn with presAsserted := asserted }.debounceTimer else t.conn.debounce } := by
  by_cases h : t.conn.isMapped = true
  · rw [if_pos h]
    exact if_pos h
  · rw [if_neg h]
    exact if_neg h

/-- An attention input that changes on a mapped connector starts its measure afresh (R45). -/
theorem Site.attnInput_conn (t : Site) (asserted : Bool) :
    (t.attnInput asserted).conn =
      { t.conn with
        attnAsserted := asserted
        steady := if t.conn.isMapped ∧ asserted ≠ t.conn.attnAsserted then false else t.conn.steady
        attnTimer :=
          if t.conn.isMapped ∧ asserted ≠ t.conn.attnAsserted then
            if asserted then some Config.attentionMs else none
          else t.conn.attnTimer } := by
  by_cases h : t.conn.isMapped ∧ asserted ≠ t.conn.attnAsserted
  · rw [if_pos h, if_pos h]
    exact if_pos h
  · rw [if_neg h, if_neg h]
    exact if_neg h

/-- A transition into a state without power leaves the connector settled there (R18). -/
@[simp] theorem Site.settle_conn (t : Site) (dest : ConnState) (cause : Cause) (counter : Fin 2) :
    (t.settle dest cause counter).conn = t.conn.settled dest counter := rfl

/-- An entry leaves the queue. -/
def Connector.without (k : Connector) (tag : Byte) : Connector :=
  { k with queue := k.queue.eraseP fun e => e.tag == tag }

/-- A drain completes where an end has left the queue of a DRAINING connector empty (R41, R96). -/
def Connector.drained (k : Connector) : Connector :=
  if k.state = .draining ∧ k.queue = [] then k.cut .off 0 else k

/-- A drain completes or the connector stands. -/
theorem Site.drainCheck_conn (t : Site) : t.drainCheck.conn = t.conn.drained := by
  obtain ⟨h1, h2, h⟩ | ⟨h1, h⟩ := t.drainCheck_cases
  · rw [h, Site.powerCut_settle, Connector.drained, if_pos ⟨h1, h2⟩]
  · rw [h, Connector.drained, if_neg h1]

/-- The end of an entry takes it out of the queue, and may complete a drain (R87, R96). -/
theorem Site.endEntry_conn (t : Site) (e : Entry) (status : Status) (data : List Byte) :
    (t.endEntry e status data).conn = (t.conn.without e.tag).drained := by
  rw [Site.endEntry, Site.drainCheck_conn, Site.reportEnd_eq]
  rfl

/-- An abort drops the engine's work, where the engine works for the entry; it does nothing elsewhere (R91). -/
theorem Site.abort_cases (t : Site) :
    (t.conn.engine.abortable = false ∧ t.abort = t) ∨
      ∃ engine, Engine.Drops t.conn.engine engine ∧ t.abort = t.setConn (t.conn.dropWork engine) := by
  unfold Site.abort
  cases h : t.conn.engine with
  | transferring a =>
    exact .inr ⟨_, .attemptAborted a, by simp [Connector.dropWork, h, Engine.isPulsing]⟩
  | pulsing ms =>
    refine .inr ⟨_, .pulseEnds ms, ?_⟩
    cases hu : t.conn.state.usable <;> simp [Connector.dropWork, Site.releaseReset, Site.setConn, h, hu, Engine.isPulsing]
  | clearing purpose b =>
    cases purpose with
    | beforeTransfer a aborted =>
      exact .inr ⟨_, .clearAborted a aborted b, by simp [Connector.dropWork, h, Engine.isPulsing]⟩
    | requested | afterStretch => exact .inl ⟨rfl, rfl⟩
  | off | idle | aborting | hung => exact .inl ⟨rfl, rfl⟩

/-- The entry a start decision chooses waits, and stands in the queue (R76). -/
theorem chooseFrom_some {older olderPosted : Bool} {q : List Entry} {e : Entry}
    (h : chooseFrom older olderPosted q = some e) : e ∈ q ∧ e.state = .waiting := by
  induction q generalizing older olderPosted with
  | nil => cases h
  | cons x q ih =>
    rw [chooseFrom] at h
    by_cases hx : x.state = .waiting ∧ (if x.posted then olderPosted else older) = false
    · rw [if_pos hx] at h
      cases h
      exact ⟨List.mem_cons_self, hx.1⟩
    · rw [if_neg hx] at h
      obtain ⟨hm, hw⟩ := ih h
      exact ⟨List.mem_cons_of_mem _ hm, hw⟩

/-- The conditions of a start, one by one (R75). -/
theorem Connector.mayStart_iff (k : Connector) :
    k.mayStart = true ↔ k.state.usable = true ∧ (k.engine = .idle ∨ k.engine = .hung) ∧ k.activeEntry = none := by
  simp [Connector.mayStart, and_assoc]

/-! ### The sequencer's and the engine's actions are moves -/

/-- Start decisions are ends of entries, and a start at most (R77). -/
theorem Site.decideStarts_moves (n : Nat) (t : Site) (lines : BusLines) :
    Site.Moves t (Site.decideStarts n t lines) := by
  induction n generalizing t with
  | zero => exact .refl
  | succ n ih =>
    unfold Site.decideStarts
    split
    next hm =>
      split
      next => exact .refl
      next e hc =>
        obtain ⟨he, hw⟩ := chooseFrom_some hc
        split
        next status hs => exact .head (.endEntry t e 0 status [] he (by simp [hw])) (ih _)
        next hs => exact .single (.start t e lines hm hc hs)
    next => exact .refl

theorem Site.startDecision_moves (t : Site) (lines : BusLines) : Site.Moves t (t.startDecision lines) :=
  Site.decideStarts_moves _ t lines

/-- An entry ends by expiry or cancellation (R91). -/
theorem Site.withdraw_moves (t : Site) (e : Entry) (status : Status) (he : e ∈ t.conn.queue) :
    Site.Moves t (t.withdraw e status) := by
  unfold Site.withdraw
  split
  next ha =>
    obtain ⟨hn, h⟩ | ⟨engine, hd, h⟩ := t.abort_cases
    · rw [h]
      exact .single (.endEntry t e e.acked status [] he fun _ => hn)
    · rw [h]
      exact .single (.endWork t e e.acked status [] engine he ha hd)
  next ha => exact .single (.endEntry t e e.acked status [] he fun h => absurd h ha)

/-- The work of the ACTIVE entry ends with the entry, or alone where there is none (R86). -/
theorem Site.endActive_moves (t : Site) (engine : Engine) (acked : Entry → Nat) (status : Status) (data : List Byte)
    (hd : Engine.Drops t.conn.engine engine) :
    Site.Moves t ((t.setConn (t.conn.dropWork engine)).endActive acked status data) := by
  have hsame : (t.conn.dropWork engine).activeEntry = t.conn.activeEntry := rfl
  unfold Site.endActive
  rw [Site.setConn_conn, hsame]
  cases he : t.conn.activeEntry with
  | none => exact .single (.leaveWork t engine (.inl he) hd)
  | some e =>
    obtain ⟨hm, ha⟩ := Connector.activeEntry_some he
    exact .single (.endWork t e (acked e) status data engine hm ha hd)

/-- Work that is no pulse leaves MRST_N as it is. -/
theorem Connector.dropWork_of_not_pulsing {k : Connector} (engine : Engine) (h : k.engine.isPulsing = false) :
    k.dropWork engine = { k with engine } := by
  simp [Connector.dropWork, h]

/-- The end of a pulse (R21, R117). -/
theorem Site.setConn_idle_releaseReset {t : Site} {ms : Nat} (h : t.conn.engine = .pulsing ms) :
    (t.setConn { t.conn with engine := .idle }).releaseReset = t.setConn (t.conn.dropWork .idle) := by
  cases hu : t.conn.state.usable <;> simp [Site.releaseReset, Site.setConn, Connector.dropWork, h, hu, Engine.isPulsing]

/-- An ADDRESS_NAK sends the entry to BACKOFF or ends it (R82, R83). -/
theorem Site.addressRefused_moves (t : Site) (a : Attempt) (h : t.conn.engine = .transferring a) :
    Site.Moves t (t.setConn { t.conn with engine := .idle }).addressRefused := by
  have hdrop : t.conn.dropWork .idle = { t.conn with engine := .idle } :=
    Connector.dropWork_of_not_pulsing _ (by rw [h]; rfl)
  have hd : Engine.Drops t.conn.engine .idle := h ▸ .attemptEnds a
  have hend := t.endActive_moves .idle (fun _ => 0) .noTarget [] hd
  rw [hdrop] at hend
  unfold Site.addressRefused
  cases he : t.conn.activeEntry with
  | none =>
    have hn : ({ t.conn with engine := .idle } : Connector).activeEntry = none := he
    rw [Site.setConn_conn, hn, ← hdrop]
    exact .single (.leaveWork t .idle (.inl he) hd)
  | some e =>
    have hn : ({ t.conn with engine := .idle } : Connector).activeEntry = some e := he
    simp only [Site.setConn_conn, hn]
    split
    next => exact .single (.backoff t a e _ h he)
    next => exact hend

/-- An attempt's outcome (R82, R110). -/
theorem Site.attemptEnds_moves (t : Site) (a : Attempt) (outcome : AttemptOutcome)
    (h : t.conn.engine = .transferring a) : Site.Moves t (t.attemptEnds a outcome) := by
  have hdrop : t.conn.dropWork .idle = { t.conn with engine := .idle } :=
    Connector.dropWork_of_not_pulsing _ (by rw [h]; rfl)
  have hend := fun acked status data => t.endActive_moves .idle acked status data (h ▸ .attemptEnds a)
  simp only [hdrop] at hend
  cases outcome with
  | done | dataNak => exact hend _ _ _
  | addressNak => exact t.addressRefused_moves a h
  | stuckAtStart => exact .refl

/-- Work that no entry waits for ends (R113, R115, R116). -/
theorem Site.leaveWork_moves (t : Site) (engine : Engine) (h : t.conn.engine.abandoned = true)
    (hd : Engine.Drops t.conn.engine engine) : Site.Moves t (t.setConn { t.conn with engine }) := by
  have hp : t.conn.engine.isPulsing = false := by
    cases he : t.conn.engine with
    | pulsing ms =>
      rw [he] at h
      cases h
    | _ => rfl
  rw [← Connector.dropWork_of_not_pulsing engine hp]
  exact .single (.leaveWork t engine (.inr h) hd)

/-- A clear's end (R113). -/
theorem Site.clearEnds_moves (t : Site) (purpose : ClearPurpose) (b : BusClear) (success : Bool) (lines : BusLines)
    (h : t.conn.engine = .clearing purpose b) : Site.Moves t (t.clearEnds purpose success lines) := by
  have hp : t.conn.engine.isPulsing = false := by rw [h]; rfl
  have hidle : Engine.Drops t.conn.engine .idle := h ▸ .clearEnds purpose b
  have hhung : Engine.Drops t.conn.engine .hung := h ▸ .clearFails purpose b
  have hend := fun engine hd acked status data => t.endActive_moves engine acked status data hd
  simp only [Connector.dropWork_of_not_pulsing _ hp] at hend
  match purpose, success with
  | .requested, true => exact (hend _ hidle _ _ _).trans (Site.startDecision_moves _ _)
  | .requested, false => exact (hend _ hhung _ _ _).trans (Site.startDecision_moves _ _)
  | .beforeTransfer a false, true => exact .single (.beginTransfer t a b h)
  | .beforeTransfer _ false, false => exact (hend _ hhung _ _ _).trans (Site.startDecision_moves _ _)
  | .beforeTransfer _ true, true | .afterStretch, true =>
    exact (t.leaveWork_moves _ (by rw [h]; rfl) hidle).trans (Site.startDecision_moves _ _)
  | .beforeTransfer _ true, false | .afterStretch, false =>
    exact (t.leaveWork_moves _ (by rw [h]; rfl) hhung).trans (Site.startDecision_moves _ _)

/-! ### The supervisor's actions are moves -/

/-- A power cut with the connector's other fields as they are. -/
theorem Site.powerCut_moves (t : Site) (status : Status) (dest : ConnState) (cause : Cause) (counter : Fin 2)
    (hp : t.conn.state.powered = true) (hd : (dest = .off ∧ counter = 0) ∨ dest = .faulted) :
    Site.Moves t ((t.powerCut status).settle dest cause counter) :=
  .single (.cut t t.conn.ocAsserted t.conn.pgAsserted t.conn.inrush t.conn.qualify t.conn.debounce status dest cause
    counter hp (by tauto))

/-! A qualified fault, by the state it finds (R33, R34). -/

theorem Site.takeFault_of_draining {t : Site} (cause : Cause) (h : t.conn.state = .draining) :
    t.takeFault cause = (t.powerCut .slotFault).settle .off cause 0 := by
  simp only [Site.takeFault, h]

theorem Site.takeFault_of_retry {t : Site} (cause : Cause) (h : t.conn.state = .powering ∨ t.conn.state = .on)
    (hr : t.conn.config.autoRetry = true ∧ t.conn.faultCounter = 0) :
    t.takeFault cause =
      ((t.powerCut .slotFault).settle .cooldown cause 1).setConn
        { t.conn.cut .cooldown 1 with cooldown := some (10 * t.conn.config.retryDelay) } := by
  obtain h | h := h <;> simp [Site.takeFault, h, hr, Site.powerCut_settle, Site.setConn]

theorem Site.takeFault_of_latch {t : Site} (cause : Cause) (h : t.conn.state = .powering ∨ t.conn.state = .on)
    (hr : ¬(t.conn.config.autoRetry = true ∧ t.conn.faultCounter = 0)) :
    t.takeFault cause = (t.powerCut .slotFault).settle .faulted cause t.conn.faultCounter := by
  have hc : (t.powerCut .slotFault).conn.faultCounter = t.conn.faultCounter := by
    rw [Site.powerCut, Site.sweep_eq]; rfl
  obtain h | h := h <;> simp [Site.takeFault, h, hr, hc]

theorem Site.takeFault_of_unpowered {t : Site} (cause : Cause) (h : t.conn.state.powered = false) :
    t.takeFault cause = t := by
  cases hs : t.conn.state <;> simp_all [Site.takeFault, ConnState.powered]

/-- The states with power, one by one (R20). -/
theorem ConnState.powered_iff (st : ConnState) : st.powered = true ↔ (st = .powering ∨ st = .on) ∨ st = .draining := by
  cases st <;> simp [ConnState.powered]

/-- A fault is taken where there is power, whatever became of the inputs, the inrush window and the qualify timer with
it (R33, R34). -/
theorem Site.takeFault_moves {t u : Site} {oc pg : Bool} {inrush qualify : Timer} (cause : Cause)
    (hu : u = t.setConn { t.conn with ocAsserted := oc, pgAsserted := pg, inrush, qualify })
    (hp : t.conn.state.powered = true) : Site.Moves t (u.takeFault cause) := by
  have hs : u.conn.state = t.conn.state := by rw [hu]; rfl
  obtain h | h := (ConnState.powered_iff _).1 hp
  · rw [← hs] at h
    by_cases hr : u.conn.config.autoRetry = true ∧ u.conn.faultCounter = 0
    · rw [Site.takeFault_of_retry cause h hr, hu]
      have := Site.Move.cutToRetry t oc pg inrush qualify .slotFault cause (10 * t.conn.config.retryDelay) hp _ rfl
      simp only [Site.powerCut_settle] at this ⊢
      exact .single this
    · rw [Site.takeFault_of_latch cause h hr, hu]
      exact .single (.cut t oc pg inrush qualify t.conn.debounce _ _ cause _ hp (.inr (.inl ⟨rfl, rfl⟩)))
  · rw [← hs] at h
    rw [Site.takeFault_of_draining cause h, hu]
    exact .single (.cut t oc pg inrush qualify t.conn.debounce _ _ cause _ hp (.inl ⟨rfl, rfl, rfl⟩))

/-- Fault conditions are of states with power (R32). -/
theorem Connector.powered_of_faultCondition {k : Connector} (h : k.faultCondition = true) : k.state.powered = true := by
  unfold Connector.faultCondition at h
  cases hs : k.state <;> simp_all [ConnState.powered, ConnState.usable]

/-- An input or the inrush window's end is reviewed for the fault condition (R32). -/
theorem Site.reviewFault_moves {t u : Site} {oc pg : Bool} {inrush : Timer}
    (hu : u = t.setConn { t.conn with ocAsserted := oc, pgAsserted := pg, inrush })
    (hi : inrush = t.conn.inrush ∨ inrush = none) : Site.Moves t (u.reviewFault t.conn.faultCondition) := by
  by_cases hq : t.conn.faultCondition = false → u.conn.faultCondition = true → t.conn.config.qualifyMs ≠ 0
  · rw [hu] at hq ⊢
    exact .single (.review t oc pg inrush hi hq)
  · simp only [Classical.not_imp, not_not] at hq
    obtain ⟨hf, hn, hz⟩ := hq
    have hz' : u.conn.config.qualifyMs = 0 := by rw [hu]; exact hz
    have hp : t.conn.state.powered = true := by
      have := Connector.powered_of_faultCondition hn
      rwa [hu] at this
    simp only [Site.reviewFault, hf, hn, hz', if_true]
    exact Site.takeFault_moves (qualify := t.conn.qualify) _ hu hp

/-- The entry into ON with what follows it (R29, R45, R77). -/
theorem Site.powerGood_moves (t : Site) (lines : BusLines) (h : t.conn.state = .powering)
    (hpg : t.conn.pgAsserted = true) : Site.Moves t (t.powerGood lines) :=
  .trans (.single (.powerGood t h hpg _ rfl)) (Site.startDecision_moves _ lines)

/-- A power-up, on to ON where PG is asserted already (R28, R29). -/
theorem Site.powerUp_moves (t : Site) (cause : Cause) (lines : BusLines)
    (h : t.conn.state = .off ∨ t.conn.state = .cooldown) : Site.Moves t (t.powerUp cause lines) := by
  have hmove := Site.Move.powerUp t cause h
  simp only [Site.powerUp]
  split
  next hpg => exact .head hmove (Site.powerGood_moves _ lines rfl hpg)
  next => exact .single hmove

/-- An insertion is taken as the debounce timer ends (R26). -/
theorem Site.insertion_moves (t : Site) (lines : BusLines) (h : t.conn.state = .empty)
    (hd : t.conn.debounce.isSome = true) :
    Site.Moves t ((t.setConn { t.conn with debounce := none }).insertion lines) := by
  have hmove := Site.Move.settle t none .off .inserted (by rw [h]; rfl) (by rw [h]; decide) (.inl rfl)
    (.inr ⟨rfl, hd, by rw [h]; rfl⟩)
  simp only [Site.insertion]
  split
  next => exact .head hmove (Site.powerUp_moves _ _ lines (.inl rfl))
  next => exact .single hmove

/-- A removal is taken as the debounce timer ends (R27). -/
theorem Site.removal_moves (t : Site) (h : t.conn.state ≠ .empty) (hm : t.conn.state ≠ .unused)
    (hd : t.conn.debounce.isSome = true) :
    Site.Moves t (t.setConn { t.conn with debounce := none }).removal := by
  have hpres : t.conn.state.present = true := by
    cases hs : t.conn.state with
    | empty => exact absurd hs h
    | _ => rfl
  unfold Site.removal
  rw [Site.setConn_conn]
  cases hp : t.conn.state.powered with
  | true =>
    rw [if_pos rfl]
    exact .single (.cut t t.conn.ocAsserted t.conn.pgAsserted t.conn.inrush t.conn.qualify none _ _ _ _ hp
      (.inr (.inr ⟨rfl, rfl, hd, rfl⟩)))
  | false =>
    rw [if_neg (by simp)]
    exact .single (.settle t none _ _ hp hm (.inr rfl) (.inr ⟨rfl, hd, by rw [hpres]; rfl⟩))

/-- Power off at once (R39, R44). -/
theorem Site.powerOffNow_moves (t : Site) (cause : Cause) : Site.Moves t (t.powerOffNow cause) := by
  by_cases hp : t.conn.state.powered = true
  · rw [Site.powerOffNow_of_powered cause hp]
    exact t.powerCut_moves _ _ _ _ hp (.inl ⟨rfl, rfl⟩)
  · by_cases hc : t.conn.state = .cooldown
    · rw [Site.powerOffNow_of_cooldown cause hc]
      exact .single (.settle t t.conn.debounce _ _ (by simpa using hp) (by rw [hc]; decide) (.inl rfl)
        (.inl ⟨rfl, by rw [hc]; rfl⟩))
    · rw [Site.powerOffNow_of_unpowered cause (by simpa using hp) hc]

/-- SLOT_POWER_ON (R38). -/
theorem Site.powerOn_moves (t : Site) (lines : BusLines) : Site.Moves t (t.powerOn lines) := by
  unfold Site.powerOn
  cases h : t.conn.state with
  | off => exact t.powerUp_moves _ lines (.inl h)
  | cooldown => exact t.powerUp_moves _ lines (.inr h)
  | draining => exact .head (.resume t h) (Site.startDecision_moves _ lines)
  | unused | empty | powering | on | faulted => exact .refl

/-- SLOT_POWER_OFF in mode DRAIN (R40). -/
theorem Site.powerOffDrain_moves (t : Site) : Site.Moves t t.powerOffDrain := by
  unfold Site.powerOffDrain
  cases h : t.conn.state with
  | on =>
    simp only
    split
    next => exact t.powerCut_moves _ _ _ _ (by rw [h]; rfl) (.inl ⟨rfl, rfl⟩)
    next hq => exact .single (.drain t h hq)
  | powering | cooldown => exact t.powerOffNow_moves _
  | unused | empty | off | draining | faulted => exact .refl

/-- SLOT_CLEAR_FAULT (R42). -/
theorem Site.clearFault_moves (t : Site) : Site.Moves t t.clearFault := by
  unfold Site.clearFault
  split
  next h =>
    exact .single (.settle t t.conn.debounce _ _ (by rw [h]; rfl) (by rw [h]; decide) (.inl rfl)
      (.inl ⟨rfl, by rw [h]; rfl⟩))
  next => exact .refl

/-- PG_INPUT_CHANGE (R4, R29, R32). -/
theorem Site.pgInput_moves (t : Site) (asserted : Bool) (lines : BusLines) :
    Site.Moves t (t.pgInput asserted lines) := by
  have hreview := Site.reviewFault_moves (t := t) (u := t.setConn { t.conn with pgAsserted := asserted })
    (oc := t.conn.ocAsserted) (pg := asserted) (inrush := t.conn.inrush) rfl (.inl rfl)
  unfold Site.pgInput
  split
  next h =>
    have hsame : (t.setConn { t.conn with pgAsserted := asserted }).conn.faultCondition = t.conn.faultCondition := by
      simp [Connector.faultCondition, h, ConnState.usable]
    have hrec : (t.setConn { t.conn with pgAsserted := asserted }).reviewFault t.conn.faultCondition =
        t.setConn { t.conn with pgAsserted := asserted } := by
      unfold Site.reviewFault
      rw [hsame]
      cases t.conn.faultCondition <;> rfl
    rw [hrec] at hreview
    split
    next ha => exact hreview.trans (Site.powerGood_moves _ lines h ha)
    next => exact hreview
  next => exact hreview

end Sys2Proof.Machine
end

section
/-! PROOFS. The order in which entries start (O7): R76 along a Slot Queue, and that every move of a connector keeps it. -/

namespace Sys2Proof.Machine

/-! ### R76 along a queue -/

/-- Entries that have started did so in the order of R76, given whether an older entry, and whether an older posted
entry, stands before the list. -/
def startedFrom (older olderPosted : Bool) : List Entry → Prop
  | [] => True
  | e :: es =>
    (e.state ≠ .waiting → (if e.posted then olderPosted else older) = false) ∧
      startedFrom true (olderPosted || e.posted) es

/-- The same by the places of the entries. -/
theorem startedFrom_iff (older olderPosted : Bool) (q : List Entry) :
    startedFrom older olderPosted q ↔
      ∀ i (h : i < q.length), q[i].state ≠ .waiting →
        if q[i].posted then olderPosted = false ∧ (q.take i).all (fun e => !e.posted) = true
        else older = false ∧ i = 0 := by
  induction q generalizing older olderPosted with
  | nil => simp [startedFrom]
  | cons e q ih =>
    rw [startedFrom, ih]
    constructor
    · rintro ⟨hhead, htail⟩ (_ | i) hi hw
      · have := hhead hw
        cases hp : e.posted <;> simpa [hp] using this
      · have hi' : i < q.length := by simpa using hi
        have := htail i hi' hw
        rw [List.getElem_cons_succ]
        cases hp : q[i].posted <;> simp [hp] at this ⊢
        tauto
    · intro h
      refine ⟨fun hw => ?_, fun i hi hw => ?_⟩
      · have := h 0 (by simp) hw
        cases hp : e.posted <;> simpa [hp] using this
      · have := h (i + 1) (by simpa using hi) hw
        rw [List.getElem_cons_succ] at this
        cases hp : q[i].posted <;> simp [hp] at this ⊢
        tauto

theorem Connector.startedInOrder_iff (k : Connector) : k.StartedInOrder ↔ startedFrom false false k.queue := by
  rw [startedFrom_iff]
  simp [Connector.StartedInOrder]

/-- Fewer older entries leave the order as it is. -/
theorem startedFrom.mono {o o' p p' : Bool} {q : List Entry} (h : startedFrom o p q) (ho : o' = true → o = true)
    (hp : p' = true → p = true) : startedFrom o' p' q := by
  induction q generalizing o o' p p' with
  | nil => trivial
  | cons e q ih =>
    obtain ⟨hhead, htail⟩ := h
    refine ⟨fun hw => ?_, ih htail (fun h => h) (by simp; tauto)⟩
    have := hhead hw
    split at this <;> simp_all

/-- An entry that leaves keeps the others' order. -/
theorem startedFrom.eraseP {o p : Bool} {q : List Entry} (h : startedFrom o p q) (r : Entry → Bool) :
    startedFrom o p (q.eraseP r) := by
  induction q generalizing o p with
  | nil => exact h
  | cons e q ih =>
    obtain ⟨hhead, htail⟩ := h
    by_cases hr : r e = true
    · rw [List.eraseP_cons_of_pos hr]
      exact htail.mono (fun _ => rfl) (by simp_all)
    · rw [List.eraseP_cons_of_neg hr]
      exact ⟨hhead, ih htail⟩

/-- A change of an entry that does not start it keeps the order. -/
theorem startedFrom.updateFirst {o p : Bool} {q : List Entry} (h : startedFrom o p q) (r : Entry → Bool)
    (f : Entry → Entry) (hf : ∀ e, r e = true → (f e).posted = e.posted ∧ (e.state = .waiting → (f e).state = .waiting)) :
    startedFrom o p (updateFirst r f q) := by
  induction q generalizing o p with
  | nil => exact h
  | cons e q ih =>
    obtain ⟨hhead, htail⟩ := h
    rw [Machine.updateFirst]
    split
    next hr =>
      obtain ⟨hposted, hwaiting⟩ := hf e hr
      rw [startedFrom, hposted]
      exact ⟨fun hw => hhead fun h => hw (hwaiting h), htail⟩
    next => exact ⟨hhead, ih htail⟩

/-- An entry that joins the tail waits. -/
theorem startedFrom.append {o p : Bool} {q : List Entry} (h : startedFrom o p q) {e : Entry} (he : e.state = .waiting) :
    startedFrom o p (q ++ [e]) := by
  induction q generalizing o p with
  | nil => exact ⟨fun hw => absurd he hw, trivial⟩
  | cons x q ih => exact ⟨h.1, ih h.2⟩

/-- The chosen entry starts in order (R76). -/
theorem startedFrom.start {o p : Bool} {q : List Entry} {e : Entry} (h : startedFrom o p q)
    (hc : chooseFrom o p q = some e) (hd : (q.map fun x => x.tag).Nodup) (f : Entry → Entry)
    (hf : (f e).posted = e.posted) : startedFrom o p (Machine.updateFirst (fun x => x.tag == e.tag) f q) := by
  induction q generalizing o p with
  | nil => exact h
  | cons x q ih =>
    obtain ⟨hhead, htail⟩ := h
    rw [List.map_cons, List.nodup_cons] at hd
    rw [chooseFrom] at hc
    by_cases hx : x.state = .waiting ∧ (if x.posted then p else o) = false
    · rw [if_pos hx] at hc
      cases hc
      rw [Machine.updateFirst, if_pos (by simp), startedFrom, hf]
      exact ⟨fun _ => hx.2, htail⟩
    · rw [if_neg hx] at hc
      have hne : (x.tag == e.tag) = false := by
        have : e.tag ∈ q.map fun y => y.tag := List.mem_map_of_mem (chooseFrom_some hc).1
        simpa using fun h : x.tag = e.tag => hd.1 (h ▸ this)
      rw [Machine.updateFirst, if_neg (by simp [hne])]
      exact ⟨hhead, ih htail hc hd.2⟩

/-! ### Moves -/

/-- The work a start hands the engine (R78, R80, R103, R106, R117). -/
def Connector.workFor (k : Connector) (e : Entry) (lines : BusLines) : Engine :=
  let attempt := Attempt.ofEntry e k.config.busSpeed
  match e.kind with
  | .postWrite | .write | .read =>
    if linesFree lines then .transferring attempt.begun
    else .clearing (.beforeTransfer attempt false) (BusClear.begun k.config.busSpeed)
  | .pulseReset => .pulsing (e.pulseMs.getD 0)
  | .clearBus => .clearing .requested (BusClear.begun k.config.busSpeed)
  | .fence => k.engine

/-- What a start does: the entry becomes ACTIVE, the engine has its work, a pulse asserts MRST_N. -/
theorem Site.launch_eq (t : Site) (e : Entry) (lines : BusLines) (hk : e.kind ≠ .fence) :
    t.launch e lines =
      t.setConn
        { t.conn with
          queue := updateFirst (fun x => x.tag == e.tag) (fun x => { x with state := .active, acked := 0 }) t.conn.queue
          engine := t.conn.workFor e lines
          mrst := t.conn.mrst || (t.conn.workFor e lines).isPulsing } := by
  have htransfer : ∀ b : Bool, ∀ a p c, (if b = true then Engine.transferring a else .clearing p c).isPulsing = false := by
    intro b a p c; cases b <;> rfl
  cases h : e.kind with
  | fence => exact absurd h hk
  | postWrite | write | read =>
    simp only [Site.launch, Connector.workFor, h, htransfer, Bool.or_false]
    rfl
  | pulseReset => simp only [Site.launch, Connector.workFor, h, Engine.isPulsing, Bool.or_true]; rfl
  | clearBus => simp only [Site.launch, Connector.workFor, h, Engine.isPulsing, Bool.or_false]; rfl

/-- The work of a start is not OFF. -/
theorem Connector.workFor_ne_off {k : Connector} {e : Entry} (lines : BusLines) (hk : e.kind ≠ .fence) :
    k.workFor e lines ≠ .off := by
  unfold Connector.workFor
  cases h : e.kind with
  | fence => exact absurd h hk
  | postWrite | write | read =>
    simp only
    split <;> exact Engine.noConfusion
  | pulseReset | clearBus => exact Engine.noConfusion

/-- A start is no FENCE's (R79). -/
theorem kind_ne_fence_of_endsAtStart {engine : Engine} {kind : EntryKind} (h : endsAtStart engine kind = none) :
    kind ≠ .fence := by
  rintro rfl
  unfold endsAtStart at h
  split at h <;> simp at h

/-- A review of the fault condition that takes no fault moves the qualify timer alone: it follows the condition where it
did so before (R32). -/
theorem Site.reviewFault_conn {u : Site} {before : Bool}
    (hq : before = false → u.conn.faultCondition = true → u.conn.config.qualifyMs ≠ 0) :
    ∃ qualify, (u.reviewFault before).conn = { u.conn with qualify } ∧
      (u.conn.qualify.isSome = before → qualify.isSome = u.conn.faultCondition) := by
  unfold Site.reviewFault
  split
  next hf => exact ⟨_, by rw [if_neg (hq rfl hf)]; rfl, fun _ => by rw [hf]; rfl⟩
  next hf => exact ⟨none, rfl, fun _ => by rw [hf]; rfl⟩
  next hf => exact ⟨u.conn.qualify, rfl, fun h => by rw [h, hf]⟩
  next hf => exact ⟨u.conn.qualify, rfl, fun h => by rw [h, hf]⟩

/-- The start order looks at the queue alone. -/
theorem Connector.StartedInOrder.congr {k k' : Connector} (h : k.StartedInOrder) (hq : k'.queue = k.queue) :
    k'.StartedInOrder := by
  rw [Connector.startedInOrder_iff] at h ⊢
  rwa [hq]

/-- An empty queue is in order. -/
theorem Connector.startedInOrder_of_empty {k : Connector} (h : k.queue = []) : k.StartedInOrder := by
  rw [Connector.startedInOrder_iff, h]; trivial

/-- The end of an entry keeps the start order. -/
theorem Connector.StartedInOrder.without {k : Connector} (h : k.StartedInOrder) (tag : Byte) :
    (k.without tag).drained.StartedInOrder := by
  have hw : (k.without tag).StartedInOrder := by
    rw [Connector.startedInOrder_iff] at h ⊢
    exact h.eraseP _
  unfold Connector.drained
  split
  next => exact Connector.startedInOrder_of_empty rfl
  next => exact hw

/-- Every move of a connector keeps the start order (R76). -/
theorem Site.Move.startedInOrder {t u : Site} (h : Site.Move t u) (hd : t.conn.tags.Nodup)
    (hk : t.conn.StartedInOrder) : u.conn.StartedInOrder := by
  cases h with
  | presence => exact hk.congr (by rw [Site.presenceInput_conn])
  | attention => exact hk.congr (by rw [Site.attnInput_conn])
  | configure | unqualify | window | settle | powerUp | drain | beginTransfer | leaveWork =>
    exact hk.congr rfl
  | steady | arm | powerGood | resume => exact hk.congr (by rw [Site.attentionCheck_conn]; rfl)
  | review oc pg inrush hi hq =>
    obtain ⟨_, hconn, -⟩ := Site.reviewFault_conn (u := t.setConn _) hq
    exact hk.congr (by rw [hconn]; rfl)
  | cut => exact Connector.startedInOrder_of_empty (by rw [Site.powerCut_settle]; rfl)
  | cutToRetry oc pg inrush qualify status cause delay hp u hu =>
    exact Connector.startedInOrder_of_empty (by rw [hu, Site.powerCut_settle]; rfl)
  | start e lines hm hc he =>
    rw [Connector.startedInOrder_iff] at hk ⊢
    rw [t.launch_eq e lines (kind_ne_fence_of_endsAtStart he)]
    exact hk.start hc hd _ rfl
  | byte a a' value h ha =>
    rw [Connector.startedInOrder_iff] at hk ⊢
    exact hk.updateFirst _ _ fun _ _ => ⟨rfl, fun h => h⟩
  | backoff a e timer h he =>
    rw [Connector.startedInOrder_iff] at hk ⊢
    refine hk.updateFirst _ _ fun x hx => ⟨rfl, fun h => ?_⟩
    rw [h] at hx
    cases hx
  | retry tag e he hs =>
    rw [Connector.startedInOrder_iff] at hk ⊢
    exact hk.updateFirst _ _ fun _ _ => ⟨rfl, fun _ => rfl⟩
  | endEntry e acked status data he hw =>
    rw [Site.endEntry_conn]
    exact hk.without _
  | endWork e acked status data engine he ha hd =>
    rw [Site.endEntry_conn]
    exact Connector.StartedInOrder.without (k := t.conn.dropWork engine) (hk.congr rfl) _

end Sys2Proof.Machine
end

section
/-! PROOFS. Outputs, fault counters and supervisor timers (O9, O10, O11): every move of a connector keeps them. -/

namespace Sys2Proof.Machine

/-! ### Outputs and engine by state -/

/-- An engine that leaves work was not OFF, is not OFF after it, and pulses no more. -/
theorem Engine.Drops.not_off {engine engine' : Engine} (h : Engine.Drops engine engine') :
    engine ≠ .off ∧ engine' ≠ .off ∧ engine'.isPulsing = false := by
  cases h <;> exact ⟨Engine.noConfusion, Engine.noConfusion, rfl⟩

/-- Ticks and other changes of work leave an engine that is not OFF so. -/
theorem ConnState.powered_of_usable {st : ConnState} (h : st.usable = true) : st.powered = true := by
  cases st with
  | on | draining => rfl
  | _ => cases h

/-- The outputs look at the state, the engine and the queue alone. -/
theorem Connector.PowerAgrees.congr {k k' : Connector} (h : k.PowerAgrees) (hpen : k'.pen = k.pen)
    (hmrst : k'.mrst = k.mrst) (hstate : k'.state = k.state) (hengine : k'.engine = k.engine)
    (hqueue : k'.queue = k.queue) : k'.PowerAgrees := by
  rw [Connector.PowerAgrees, hpen, hmrst, hstate, hengine, hqueue]
  exact h

/-- A connector without power, its outputs safe and nothing held, agrees. -/
theorem Connector.powerAgrees_of_unpowered {k : Connector} (hs : k.state.powered = false) (hpen : k.pen = false)
    (hmrst : k.mrst = true) (hengine : k.engine = .off) (hqueue : k.queue = []) : k.PowerAgrees := by
  have hu : k.state.usable = false := by
    cases h : k.state.usable
    · rfl
    · rw [ConnState.powered_of_usable h] at hs; cases hs
  refine ⟨by rw [hpen, hs], by rw [hmrst, hu]; rfl, by simp [hengine, hu], by simp [hqueue], fun h => ?_⟩
  rw [h] at hu; cases hu

/-- Without power the outputs are safe and nothing is held (R20 to R24, R73). -/
theorem Connector.PowerAgrees.unpowered {k : Connector} (h : k.PowerAgrees) (hs : k.state.powered = false) :
    k.pen = false ∧ k.mrst = true ∧ k.engine = .off ∧ k.queue = [] := by
  obtain ⟨hpen, hmrst, hengine, hqueue, -⟩ := h
  have hu : k.state.usable = false := by
    cases h : k.state.usable
    · rfl
    · rw [ConnState.powered_of_usable h] at hs; cases hs
  refine ⟨by rw [hpen, hs], by rw [hmrst, hu]; rfl, hengine.2 hu, ?_⟩
  by_contra hq
  rw [hqueue hq] at hs; cases hs

/-- A connector after a power cut agrees (R22). -/
theorem Connector.cut_powerAgrees (k : Connector) (dest : ConnState) (counter : Fin 2) (hd : dest.powered = false) :
    (k.cut dest counter).PowerAgrees :=
  Connector.powerAgrees_of_unpowered hd rfl rfl rfl rfl

/-- An engine with other work, and MRST_N with its pulse, agree where the bus may be used (R21, R24). -/
theorem Connector.PowerAgrees.withWork {k k' : Connector} (h : k.PowerAgrees) (hu : k.state.usable = true)
    (hpen : k'.pen = k.pen) (hstate : k'.state = k.state) (hqueue : k'.queue = [] ↔ k.queue = [])
    (hengine : k'.engine ≠ .off) (hmrst : k'.mrst = k'.engine.isPulsing) : k'.PowerAgrees := by
  obtain ⟨hp, -, -, hq, hd⟩ := h
  refine ⟨by rw [hpen, hstate, hp], by rw [hmrst, hstate, hu]; rfl, ?_, ?_, ?_⟩
  · rw [hstate, hu]; simp [hengine]
  · rw [hstate]; exact fun h => hq fun hn => h (hqueue.2 hn)
  · rw [hstate]; exact fun hs h => hd hs (hqueue.1 h)

/-- An engine that is not OFF is one of a connector whose bus may be used (R24). -/
theorem Connector.PowerAgrees.usable {k : Connector} (h : k.PowerAgrees) (he : k.engine ≠ .off) :
    k.state.usable = true := by
  obtain ⟨-, -, hengine, -⟩ := h
  cases hu : k.state.usable
  · exact absurd (hengine.2 hu) he
  · rfl

/-- The end of an entry, with the drain it may complete (R41, R96). -/
theorem Connector.PowerAgrees.without {k : Connector} (h : k.PowerAgrees) (tag : Byte) :
    (k.without tag).drained.PowerAgrees := by
  obtain ⟨hpen, hmrst, hengine, hqueue, -⟩ := h
  unfold Connector.drained
  split
  next => exact Connector.cut_powerAgrees _ _ _ rfl
  next hd =>
    exact ⟨hpen, hmrst, hengine, fun hq => hqueue (by rintro h; exact hq (by simp [Connector.without, h])),
      fun hs hq => hd ⟨hs, hq⟩⟩

/-- Work that is left, with the release of MRST_N after a pulse (R21, R24). -/
theorem Connector.PowerAgrees.dropWork {k : Connector} (h : k.PowerAgrees) {engine : Engine}
    (hd : Engine.Drops k.engine engine) : (k.dropWork engine).PowerAgrees := by
  obtain ⟨ho, ho', hp⟩ := hd.not_off
  have hu := h.usable ho
  refine h.withWork hu rfl rfl Iff.rfl ho' ?_
  obtain ⟨-, hmrst, -⟩ := h
  rw [hu] at hmrst
  simp only [Connector.dropWork, hp, hu, hmrst]
  cases k.engine.isPulsing <;> rfl

/-- Changing an entry leaves a queue empty only where it was. -/
theorem updateFirst_eq_nil (r : Entry → Bool) (f : Entry → Entry) (q : List Entry) :
    updateFirst r f q = [] ↔ q = [] := by
  rw [← List.length_eq_zero_iff, length_updateFirst, List.length_eq_zero_iff]

/-- Every move of a connector keeps its outputs, its engine and its entries with its state (R20 to R24, R41). -/
theorem Site.Move.powerAgrees {t u : Site} (h : Site.Move t u) (hk : t.conn.PowerAgrees) : u.conn.PowerAgrees := by
  cases h with
  | presence => rw [Site.presenceInput_conn]; exact hk
  | attention => rw [Site.attnInput_conn]; exact hk
  | configure | unqualify | window => exact hk
  | steady | arm => rw [Site.attentionCheck_conn]; exact hk
  | review oc pg inrush hi hq =>
    obtain ⟨_, hconn, -⟩ := Site.reviewFault_conn (u := t.setConn _) hq
    rw [hconn]; exact hk
  | cut oc pg inrush qualify debounce status dest cause counter hp hd =>
    rw [Site.powerCut_settle]
    exact Connector.cut_powerAgrees _ _ _ (by obtain ⟨rfl, -⟩ | ⟨rfl, -⟩ | ⟨rfl, -⟩ := hd <;> rfl)
  | cutToRetry oc pg inrush qualify status cause delay hp u hu =>
    rw [hu, Site.powerCut_settle]
    exact Connector.powerAgrees_of_unpowered rfl rfl rfl rfl rfl
  | settle debounce dest cause hp hm hdest hd =>
    obtain ⟨hpen, hmrst, hengine, hqueue⟩ := hk.unpowered hp
    exact Connector.powerAgrees_of_unpowered (by obtain rfl | rfl := hdest <;> rfl) hpen hmrst hengine hqueue
  | powerUp cause h =>
    obtain ⟨-, -, hengine, hqueue⟩ := hk.unpowered (by obtain h | h := h <;> rw [h] <;> rfl)
    exact ⟨rfl, rfl, iff_of_true hengine rfl, fun _ => rfl, fun h => by cases h⟩
  | powerGood h hpg window hw =>
    obtain ⟨hpen, -⟩ := hk
    rw [h] at hpen
    rw [Site.attentionCheck_conn]
    exact ⟨hpen, rfl, by simp [ConnState.usable], fun _ => rfl, fun h => by cases h⟩
  | resume h =>
    obtain ⟨hpen, hmrst, hengine, -, -⟩ := hk
    rw [h] at hpen hmrst hengine
    rw [Site.attentionCheck_conn]
    exact ⟨hpen, hmrst, hengine, fun _ => rfl, fun h => by cases h⟩
  | drain h hq =>
    obtain ⟨hpen, hmrst, hengine, -, -⟩ := hk
    rw [h] at hpen hmrst hengine
    exact ⟨hpen, hmrst, hengine, fun _ => rfl, fun _ => hq⟩
  | start e lines hm hc he =>
    have hfence := kind_ne_fence_of_endsAtStart he
    have ho : t.conn.workFor e lines ≠ .off := Connector.workFor_ne_off lines hfence
    obtain ⟨hu, hidle, -⟩ := (Connector.mayStart_iff _).1 hm
    rw [t.launch_eq e lines hfence]
    refine hk.withWork hu rfl rfl (updateFirst_eq_nil _ _ _) ho ?_
    obtain ⟨-, hmrst, -⟩ := hk
    have hp : t.conn.engine.isPulsing = false := by obtain h | h := hidle <;> rw [h] <;> rfl
    simp only [Site.setConn_conn, hmrst, hu, hp, Bool.not_true, Bool.false_or]
  | beginTransfer a b h =>
    have hu := hk.usable (by rw [h]; exact Engine.noConfusion)
    refine hk.withWork hu rfl rfl Iff.rfl Engine.noConfusion ?_
    obtain ⟨-, hmrst, -⟩ := hk
    rw [hu, h] at hmrst
    exact hmrst
  | byte a a' value h ha =>
    have hu := hk.usable (by rw [h]; exact Engine.noConfusion)
    refine hk.withWork hu rfl rfl (updateFirst_eq_nil _ _ _) Engine.noConfusion ?_
    obtain ⟨-, hmrst, -⟩ := hk
    rw [hu, h] at hmrst
    exact hmrst
  | backoff a e timer h he =>
    have hu := hk.usable (by rw [h]; exact Engine.noConfusion)
    refine hk.withWork hu rfl rfl (updateFirst_eq_nil _ _ _) Engine.noConfusion ?_
    obtain ⟨-, hmrst, -⟩ := hk
    rw [hu, h] at hmrst
    exact hmrst
  | retry tag e he hs =>
    obtain ⟨hpen, hmrst, hengine, hqueue, hdrain⟩ := hk
    exact ⟨hpen, hmrst, hengine, fun hq => hqueue (mt (updateFirst_eq_nil _ _ _).2 hq),
      fun hs => mt (updateFirst_eq_nil _ _ _).1 (hdrain hs)⟩
  | leaveWork engine h hd => exact hk.dropWork hd
  | endEntry e acked status data he hw => rw [Site.endEntry_conn]; exact hk.without _
  | endWork e acked status data engine he ha hd => rw [Site.endEntry_conn]; exact (hk.dropWork hd).without _

/-! ### The fault counter and the cooldown/recurrence timer -/

/-- Where the fault counter is 1, and when the cooldown/recurrence timer runs, outside a device reset (R33, R35). -/
abbrev Connector.CountersFollow (k : Connector) : Prop := k.CounterPlaced ∧ k.WindowAgrees

/-- In a state without power and without a retry delay the timer is stopped, and the counter is 0 but in FAULTED. -/
theorem Connector.countersFollow_of_settled {k : Connector} (hs : k.state.powered = false) (hc : k.state ≠ .cooldown)
    (ht : k.cooldown = none) (hz : k.faultCounter = 0 ∨ k.state = .faulted) : k.CountersFollow := by
  have hu : k.state.usable = false := by
    cases h : k.state.usable
    · rfl
    · rw [ConnState.powered_of_usable h] at hs; cases hs
  refine ⟨fun h1 => ?_, fun h => absurd h hc, by simp [ht, hc, hu]⟩
  obtain h0 | hf := hz
  · rw [h0] at h1; cases h1
  · exact .inr (.inr (.inr (.inr hf)))

/-- With power the counter is free, and the timer runs in ON and DRAINING with counter 1. -/
theorem Connector.countersFollow_iff_of_powered {k : Connector} (hp : k.state.powered = true) :
    k.CountersFollow ↔ (k.cooldown.isSome = true ↔ k.state.usable = true ∧ k.faultCounter = 1) := by
  have hc : k.state ≠ .cooldown := by rintro h; rw [h] at hp; cases hp
  have hplaced : k.CounterPlaced := by
    intro _
    obtain (h | h) | h := (ConnState.powered_iff _).1 hp <;> simp [h]
  exact (and_iff_right hplaced).trans (by simp [Connector.WindowAgrees, hc])

/-- The end of an entry, with the drain it may complete. -/
theorem Connector.CountersFollow.without {k : Connector} (h : k.CountersFollow) (tag : Byte) :
    (k.without tag).drained.CountersFollow := by
  unfold Connector.drained
  split
  next => exact Connector.countersFollow_of_settled rfl ConnState.noConfusion rfl (.inl rfl)
  next => exact h

/-- Every move of a connector keeps its fault counter and its cooldown/recurrence timer (R33 to R37). -/
theorem Site.Move.countersFollow {t u : Site} (h : Site.Move t u) (hk : t.conn.CountersFollow) :
    u.conn.CountersFollow := by
  cases h with
  | presence => rw [Site.presenceInput_conn]; exact hk
  | attention => rw [Site.attnInput_conn]; exact hk
  | configure | unqualify | beginTransfer | byte | backoff | retry | leaveWork => exact hk
  | steady | arm => rw [Site.attentionCheck_conn]; exact hk
  | review oc pg inrush hi hq =>
    obtain ⟨_, hconn, -⟩ := Site.reviewFault_conn (u := t.setConn _) hq
    rw [hconn]; exact hk
  | window h =>
    have hp : t.conn.state.powered = true := ConnState.powered_of_usable h
    exact (Connector.countersFollow_iff_of_powered (k := { t.conn with cooldown := none, faultCounter := 0 }) hp).2
      (by simp)
  | cut oc pg inrush qualify debounce status dest cause counter hp hd =>
    rw [Site.powerCut_settle]
    obtain ⟨rfl, -, hz⟩ | ⟨rfl, -⟩ | ⟨rfl, -, -, hz⟩ := hd
    · exact Connector.countersFollow_of_settled rfl ConnState.noConfusion rfl (.inl hz)
    · exact Connector.countersFollow_of_settled rfl ConnState.noConfusion rfl (.inr rfl)
    · exact Connector.countersFollow_of_settled rfl ConnState.noConfusion rfl (.inl hz)
  | cutToRetry oc pg inrush qualify status cause delay hp u hu =>
    rw [hu, Site.powerCut_settle]
    exact ⟨fun _ => .inl rfl, fun _ => rfl, by simp⟩
  | settle debounce dest cause hp hm hdest hd =>
    obtain rfl | rfl := hdest <;>
      exact Connector.countersFollow_of_settled rfl ConnState.noConfusion rfl (.inl rfl)
  | powerUp cause h =>
    exact (Connector.countersFollow_iff_of_powered rfl).2 (by simp [ConnState.usable])
  | powerGood h hpg window hw =>
    have hrun := (Connector.countersFollow_iff_of_powered (by rw [h]; rfl)).1 hk
    rw [Site.attentionCheck_conn]
    refine (Connector.countersFollow_iff_of_powered rfl).2 ?_
    rw [h] at hrun
    by_cases h1 : t.conn.faultCounter = 1 <;> simp_all [ConnState.usable]
  | resume h =>
    have hrun := (Connector.countersFollow_iff_of_powered (by rw [h]; rfl)).1 hk
    rw [Site.attentionCheck_conn]
    refine (Connector.countersFollow_iff_of_powered rfl).2 ?_
    rw [h] at hrun
    exact hrun
  | drain h hq =>
    have hrun := (Connector.countersFollow_iff_of_powered (by rw [h]; rfl)).1 hk
    refine (Connector.countersFollow_iff_of_powered rfl).2 ?_
    rw [h] at hrun
    exact hrun
  | start e lines hm hc he => rw [t.launch_eq e lines (kind_ne_fence_of_endsAtStart he)]; exact hk
  | endEntry e acked status data he hw => rw [Site.endEntry_conn]; exact hk.without _
  | endWork e acked status data engine he ha hd =>
    rw [Site.endEntry_conn]
    exact Connector.CountersFollow.without (k := t.conn.dropWork engine) hk _

/-! ### The other timers of the supervisor -/

/-- In a state without power the timers of power stand still. -/
theorem Connector.timersAgree_of_settled {k : Connector} (hs : k.state.powered = false) (hq : k.qualify = none)
    (hp : k.pgDeadline = none) (hi : k.inrush = none)
    (hd : k.debounce.isSome = (k.state != .unused && k.presAsserted != k.state.present))
    (ha : (k.attnTimer.isSome || k.steady) = (k.state != .unused && k.attnAsserted))
    (hb : (k.attnTimer.isSome && k.steady) = false) : k.TimersAgree := by
  have hu : k.state.usable = false := by
    cases h : k.state.usable
    · rfl
    · rw [ConnState.powered_of_usable h] at hs; cases hs
  have hn : k.state ≠ .powering := by rintro h; rw [h] at hs; cases hs
  refine ⟨by simp [hq, Connector.faultCondition, hs, hu], by simp [hp, hn], by simp [hi], hd, ha, hb, by simp [hu]⟩

/-- A connector with power is in the map, and present. -/
theorem ConnState.present_of_powered {st : ConnState} (h : st.powered = true) : st.present = true ∧ st ≠ .unused := by
  cases st with
  | powering | on | draining => exact ⟨rfl, ConnState.noConfusion⟩
  | _ => cases h

/-- A power cut stops the timers of power (R18). -/
theorem Connector.TimersAgree.cut {k : Connector} (h : k.TimersAgree) (hp : k.state.powered = true) {dest : ConnState}
    (counter : Fin 2) (hd : dest.powered = false) (hpres : dest.present = true) (hm : dest ≠ .unused) :
    (k.cut dest counter).TimersAgree := by
  obtain ⟨-, -, -, hdeb, hattn, hboth, -⟩ := h
  obtain ⟨hkpres, hkm⟩ := ConnState.present_of_powered hp
  have hm' : (dest != .unused) = true := by simpa using hm
  have hkm' : (k.state != .unused) = true := by simpa using hkm
  rw [hkpres, hkm'] at hdeb
  rw [hkm'] at hattn
  exact Connector.timersAgree_of_settled hd rfl rfl rfl (by simpa [hpres, hm'] using hdeb)
    (by simpa [hm'] using hattn) hboth

/-- The end of an entry, with the drain it may complete. -/
theorem Connector.TimersAgree.without {k : Connector} (h : k.TimersAgree) (tag : Byte) :
    (k.without tag).drained.TimersAgree := by
  unfold Connector.drained
  split
  next hd =>
    have hp : (k.without tag).state.powered = true := by rw [hd.1]; rfl
    exact Connector.TimersAgree.cut (k := k.without tag) h hp 0 rfl rfl ConnState.noConfusion
  next => exact h

/-- Every move of a connector keeps its supervisor's timers (R25, R28 to R32, R45). -/
theorem Site.Move.timersAgree {t u : Site} (h : Site.Move t u) (hk : t.conn.TimersAgree) : u.conn.TimersAgree := by
  cases h with
  | configure | window | beginTransfer | byte | backoff | retry | leaveWork => exact hk
  | start e lines hm hc he => rw [t.launch_eq e lines (kind_ne_fence_of_endsAtStart he)]; exact hk
  | endEntry e acked status data he hw => rw [Site.endEntry_conn]; exact hk.without _
  | endWork e acked status data engine he ha hd =>
    rw [Site.endEntry_conn]
    exact Connector.TimersAgree.without (k := t.conn.dropWork engine) hk _
  | presence asserted =>
    obtain ⟨hqual, hpg, hin, hdeb, hattn⟩ := hk
    rw [Site.presenceInput_conn]
    refine ⟨hqual, hpg, hin, ?_, hattn⟩
    cases hm : t.conn.isMapped with
    | false =>
      have hs : t.conn.state = .unused := by simpa [Connector.isMapped] using hm
      simpa [hs] using hdeb
    | true =>
      have hs : (t.conn.state != .unused) = true := hm
      simp only [hs, if_true, Connector.debounceTimer, Bool.true_and]
      cases asserted <;> cases t.conn.state.present <;> rfl
  | attention asserted =>
    obtain ⟨hqual, hpg, hin, hdeb, hattn, hboth, harmed⟩ := hk
    rw [Site.attnInput_conn]
    by_cases hc : t.conn.isMapped = true ∧ asserted ≠ t.conn.attnAsserted
    · have hs : (t.conn.state != .unused) = true := hc.1
      refine ⟨hqual, hpg, hin, hdeb, ?_, ?_, ?_⟩
      · simp only [if_pos hc, hs]
        cases asserted <;> rfl
      · simp only [if_pos hc, Bool.and_false]
      · simp only [if_pos hc, Bool.and_false, Bool.false_and]
    · refine ⟨hqual, hpg, hin, hdeb, ?_, ?_, ?_⟩
      · simp only [if_neg hc]
        rw [hattn]
        cases hm : t.conn.isMapped with
        | false =>
          have hs : (t.conn.state != .unused) = false := hm
          rw [hs]; rfl
        | true => rw [not_and_not_right.1 hc hm]
      · simp only [if_neg hc]; exact hboth
      · simp only [if_neg hc]; exact harmed
  | steady h =>
    obtain ⟨hqual, hpg, hin, hdeb, hattn, -, -⟩ := hk
    rw [Site.attentionCheck_conn]
    rw [h, Bool.true_or] at hattn
    refine ⟨hqual, hpg, hin, hdeb, hattn, rfl, ?_⟩
    simp only [Site.setConn_conn]
    cases t.conn.state.usable <;> simp
  | arm =>
    obtain ⟨hqual, hpg, hin, hdeb, hattn, hboth, -⟩ := hk
    rw [Site.attentionCheck_conn]
    refine ⟨hqual, hpg, hin, hdeb, hattn, hboth, ?_⟩
    simp only [Site.setConn_conn]
    cases t.conn.state.usable <;> cases t.conn.steady <;> rfl
  | review oc pg inrush hi hq =>
    obtain ⟨qualify, hconn, hfollow⟩ := Site.reviewFault_conn (u := t.setConn _) hq
    obtain ⟨hqual, hpg, hin, hrest⟩ := hk
    rw [hconn]
    refine ⟨hfollow hqual, hpg, fun h => ?_, hrest⟩
    obtain rfl | rfl := hi
    · exact hin h
    · cases h
  | unqualify h =>
    obtain ⟨-, hpg, hin, hrest⟩ := hk
    refine ⟨?_, hpg, hin, hrest⟩
    have hu : t.conn.state.usable = false := by
      cases hu : t.conn.state.usable
      · rfl
      · rw [ConnState.powered_of_usable hu] at h; cases h
    simp [Connector.faultCondition, h, hu]
  | cut oc pg inrush qualify debounce status dest cause counter hp hd =>
    rw [Site.powerCut_settle]
    obtain ⟨rfl, rfl, -⟩ | ⟨rfl, rfl⟩ | ⟨rfl, rfl, hdeb, -⟩ := hd
    · exact Connector.TimersAgree.cut (k := t.conn) (dest := .off) hk hp counter rfl rfl (by decide)
    · exact Connector.TimersAgree.cut (k := t.conn) (dest := .faulted) hk hp counter rfl rfl (by decide)
    · obtain ⟨-, -, -, hdeb', hattn, hboth, -⟩ := hk
      obtain ⟨hpres, hm⟩ := ConnState.present_of_powered hp
      have hm : (t.conn.state != .unused) = true := by simpa using hm
      rw [hdeb, hpres, hm] at hdeb'
      rw [hm] at hattn
      exact Connector.timersAgree_of_settled rfl rfl rfl rfl (by simpa [ConnState.present] using hdeb') hattn hboth
  | cutToRetry oc pg inrush qualify status cause delay hp u hu =>
    rw [hu, Site.powerCut_settle]
    exact Connector.TimersAgree.cut (k := t.conn) (dest := .cooldown) hk hp 1 rfl rfl (by decide)
  | settle debounce dest cause hp hm hdest hd =>
    obtain ⟨-, -, -, hdeb, hattn, hboth, -⟩ := hk
    have hm : (t.conn.state != .unused) = true := by simpa using hm
    have hm' : (dest != .unused) = true := by obtain rfl | rfl := hdest <;> rfl
    rw [hm] at hdeb hattn
    refine Connector.timersAgree_of_settled (by obtain rfl | rfl := hdest <;> rfl) rfl rfl rfl ?_ ?_ hboth
    · obtain ⟨rfl, hpres⟩ | ⟨rfl, hrun, hpres⟩ := hd
      · simpa [hpres, hm'] using hdeb
      · rw [hrun] at hdeb
        simp only [Site.settle_conn, Connector.settled_debounce, Connector.settled_state,
          Connector.settled_presAsserted, Site.setConn_conn, hm', hpres]
        revert hdeb
        cases t.conn.presAsserted <;> cases t.conn.state.present <;> decide
    · simpa [hm'] using hattn
  | powerUp cause h =>
    obtain ⟨hqual, hpg, hin, hdeb, hattn, hboth, harmed⟩ := hk
    have hs : t.conn.state.powered = false ∧ t.conn.state.usable = false ∧ t.conn.state.present = true ∧
        (t.conn.state != .unused) = true := by
      obtain h | h := h <;> rw [h] <;> exact ⟨rfl, rfl, rfl, rfl⟩
    obtain ⟨hp, hu, hpres, hm⟩ := hs
    rw [hm, hpres] at hdeb
    rw [hm] at hattn
    refine ⟨?_, iff_of_true rfl rfl, fun _ => rfl, hdeb, hattn, hboth, by simp [ConnState.usable]⟩
    rw [Connector.faultCondition, hp, hu] at hqual
    simpa [Connector.faultCondition, ConnState.usable] using hqual
  | powerGood h hg window hw =>
    obtain ⟨hqual, hpg, hin, hdeb, hattn, hboth, harmed⟩ := hk
    rw [h] at hdeb hattn
    rw [Site.attentionCheck_conn]
    refine ⟨?_, by simp, fun _ => rfl, hdeb, hattn, hboth, ?_⟩
    · simpa [Connector.faultCondition, h, hg, ConnState.usable, ConnState.powered] using hqual
    · simp only [Site.enter_conn, Site.setConn_conn, ConnState.usable]
      cases t.conn.steady <;> simp
  | resume h =>
    obtain ⟨hqual, hpg, hin, hdeb, hattn, hboth, harmed⟩ := hk
    rw [h] at hdeb hattn hpg
    rw [Site.attentionCheck_conn]
    refine ⟨?_, by simpa using hpg, fun _ => rfl, hdeb, hattn, hboth, ?_⟩
    · simpa [Connector.faultCondition, h, ConnState.usable, ConnState.powered] using hqual
    · simp only [Site.enter_conn, ConnState.usable]
      cases t.conn.steady <;> simp
  | drain h hq =>
    obtain ⟨hqual, hpg, hin, hdeb, hattn, hboth, harmed⟩ := hk
    rw [h] at hdeb hattn hpg harmed
    refine ⟨?_, by simpa using hpg, fun _ => rfl, hdeb, hattn, hboth, harmed⟩
    simpa [Connector.faultCondition, h, ConnState.usable, ConnState.powered] using hqual

end Sys2Proof.Machine
end

section
/-! PROOFS. Transfer attempts: the byte that completes next, the line steps of an element, and that a completed byte, a
tick and the start of work leave an attempt and a clear at places they can have (O8). -/

namespace Sys2Proof.Machine

/-! ### The data bytes of an attempt (R107 to R109) -/

/-- The byte that completes next, by the bytes completed so far. -/
theorem find?_isData_afterData (n : Nat) (es : List BusElement) :
    (afterData n es).find? BusElement.isData = (es.filter BusElement.isData)[n]? := by
  induction es generalizing n with
  | nil => cases n <;> rfl
  | cons e es ih =>
    cases n with
    | zero =>
      have h0 : afterData 0 es = es := by cases es <;> rfl
      cases he : e.isData with
      | true => simp [afterData, he]
      | false => rw [List.filter_cons_of_neg (by simp [he]), ← ih 0, h0]; simp [afterData, he]
    | succ n =>
      cases he : e.isData with
      | true => simp [afterData, he, ih]
      | false => simp [afterData, he, ih]

/-- The bytes received are data bytes, as many as are read, the last marked (R108). -/
theorem receivedElements_getElem? (n i : Nat) :
    (receivedElements n)[i]? = if i < n then some (.received (decide (i + 1 = n))) else none := by
  induction n using receivedElements.induct generalizing i with
  | case1 => simp [receivedElements]
  | case2 => cases i <;> simp [receivedElements]
  | case3 n ih =>
    cases i with
    | zero => simp [receivedElements]
    | succ i => simp [receivedElements, ih]

theorem filter_isData_receivedElements (n : Nat) :
    (receivedElements n).filter BusElement.isData = receivedElements n := by
  induction n using receivedElements.induct with
  | case1 => rfl
  | case2 => rfl
  | case3 n ih => rw [receivedElements, List.filter_cons_of_pos rfl, ih]

theorem filter_isData_sent (bytes : List Byte) :
    (bytes.map BusElement.sent).filter BusElement.isData = bytes.map .sent := by
  rw [List.filter_eq_self]
  intro e he
  obtain ⟨b, -, rfl⟩ := List.mem_map.1 he
  rfl

/-- The data bytes of an attempt: those written, then those read. -/
theorem Attempt.filter_isData_elements (a : Attempt) :
    a.elements.filter BusElement.isData = a.writeBytes.map .sent ++ receivedElements (a.readCount.getD 0) := by
  unfold Attempt.elements
  cases a.readCount with
  | none => simp [BusElement.isData, filter_isData_sent, receivedElements]
  | some n =>
    by_cases hw : a.writeBytes = []
    · simp [hw, BusElement.isData, filter_isData_receivedElements]
    · simp [hw, BusElement.isData, filter_isData_receivedElements, filter_isData_sent]

/-- The byte that completes next, by the numbers of bytes written and read. -/
theorem Attempt.nextData_eq (a : Attempt) :
    a.nextData =
      if h : a.completed < a.writeBytes.length then some (.sent a.writeBytes[a.completed])
      else if a.completed < a.total then some (.received (decide (a.completed + 1 = a.total)))
      else none := by
  rw [Attempt.nextData, Attempt.remaining, find?_isData_afterData, Attempt.filter_isData_elements]
  split
  next h => rw [List.getElem?_append_left (by simpa using h)]; simp [h]
  next h =>
    rw [List.getElem?_append_right (by simpa using h), receivedElements_getElem?, List.length_map, Attempt.total]
    have h1 : a.completed - a.writeBytes.length < a.readCount.getD 0 ↔
        a.completed < a.writeBytes.length + a.readCount.getD 0 := by omega
    have h2 : a.completed - a.writeBytes.length + 1 = a.readCount.getD 0 ↔
        a.completed + 1 = a.writeBytes.length + a.readCount.getD 0 := by omega
    simp only [h1, h2]

/-- A byte of data is sent next while bytes to be written are left. -/
theorem Attempt.nextData_of_lt {a : Attempt} (h : a.completed < a.writeBytes.length) :
    ∃ b, a.nextData = some (.sent b) := by
  rw [Attempt.nextData_eq, dif_pos h]; exact ⟨_, rfl⟩

/-- A byte is received next once all are written and some are left to read. -/
theorem Attempt.nextData_of_read {a : Attempt} (h : a.writeBytes.length ≤ a.completed) (ht : a.completed < a.total) :
    ∃ last, a.nextData = some (.received last) := by
  rw [Attempt.nextData_eq, dif_neg (by omega), if_pos ht]; exact ⟨_, rfl⟩

/-- No byte is left once all are completed. -/
theorem Attempt.nextData_of_total {a : Attempt} (h : a.total ≤ a.completed) : a.nextData = none := by
  have : a.writeBytes.length ≤ a.total := by unfold Attempt.total; omega
  rw [Attempt.nextData_eq, dif_neg (by omega), if_neg (by omega)]

/-- What BYTE_COMPLETED brings a transfer, by the byte that completes (R78, R107 to R109). -/
theorem Attempt.complete_cases {a a' : Attempt} {value : Byte} (h : a.complete value = some a') :
    a.refused = none ∧
      ((a.completed < a.writeBytes.length ∧
          a' = { a with phase := .writeBytes, completed := a.completed + 1 }.moveOn) ∨
        (a.writeBytes.length ≤ a.completed ∧ a.completed < a.total ∧
          a' =
            { a with
              phase := .readBytes, lineStep := bitSteps, sampled := [], completed := a.completed + 1,
              received := a.received ++ [value] })) := by
  by_cases hw : a.completed < a.writeBytes.length
  · obtain ⟨b, hn⟩ := Attempt.nextData_of_lt hw
    cases hr : a.refused with
    | some r => simp [Attempt.complete, hr] at h
    | none =>
      simp only [Attempt.complete, hr, hn, Option.some.injEq] at h
      exact ⟨rfl, .inl ⟨hw, h.symm⟩⟩
  · by_cases ht : a.completed < a.total
    · obtain ⟨last, hn⟩ := Attempt.nextData_of_read (by omega) ht
      cases hr : a.refused with
      | some r => simp [Attempt.complete, hr] at h
      | none =>
        simp only [Attempt.complete, hr, hn, Option.ite_none_right_eq_some, Option.some.injEq] at h
        exact ⟨rfl, .inr ⟨by omega, ht, h.2.symm⟩⟩
    · have hn := Attempt.nextData_of_total (a := a) (by omega)
      cases hr : a.refused <;> simp [Attempt.complete, hr, hn] at h

/-! ### The line steps of an element (R104) -/

/-- Three line steps to a clock period: which of them waits, and which samples. -/
theorem flatMap_clockPeriod_getElem? (bits : List Bool) (i : Nat) :
    (bits.flatMap fun bit => clockPeriod (!bit) false)[i]? =
      (bits[i / 3]?).bind fun bit => (clockPeriod (!bit) false)[i % 3]? := by
  induction bits generalizing i with
  | nil => simp
  | cons bit bits ih =>
    match i with
    | 0 | 1 | 2 => simp [clockPeriod]
    | i + 3 =>
      have hd : (i + 3) / 3 = i / 3 + 1 := by omega
      have hm : (i + 3) % 3 = i % 3 := by omega
      rw [List.flatMap_cons, List.getElem?_append_right (by simp [clockPeriod]), hd, hm, List.getElem?_cons_succ, ← ih]
      rfl

/-- The line steps of a byte sent. -/
def sentSteps (b : Byte) :
    List LineStep := ((bitsOf b).flatMap fun bit => clockPeriod (!bit) false) ++ clockPeriod false true

theorem BusElement.steps_address (b : Byte) : (BusElement.address b).steps = sentSteps b := rfl
theorem BusElement.steps_sent (b : Byte) : (BusElement.sent b).steps = sentSteps b := rfl

@[simp] theorem sentSteps_length (b : Byte) : (sentSteps b).length = 27 := rfl

/-- A byte sent samples the data line once, in the high phase of its acknowledge period (R104). -/
theorem sentSteps_samples {b : Byte} {i : Nat} {step : LineStep} (h : (sentSteps b)[i]? = some step) :
    step.samples = decide (i = 26) := by
  have hi : i < 27 := by
    obtain ⟨hi, -⟩ := List.getElem?_eq_some_iff.1 h
    exact hi
  by_cases hbits : i < 24
  · rw [sentSteps, List.getElem?_append_left (by exact hbits), flatMap_clockPeriod_getElem?] at h
    obtain ⟨bit, -, h⟩ := Option.bind_eq_some_iff.1 h
    have hm : i % 3 < 3 := Nat.mod_lt _ (by decide)
    have hs : step.samples = false := by
      generalize i % 3 = j at h hm
      match j, hm with
      | 0, _ | 1, _ | 2, _ => cases h; rfl
    rw [hs, decide_eq_false (by omega)]
  · obtain rfl | rfl | rfl : i = 24 ∨ i = 25 ∨ i = 26 := by omega
    all_goals cases h; rfl

/-- A byte received samples the data line in the high phase of each of its eight bits (R104). -/
theorem receivedSteps_samples {last : Bool} {i : Nat} {step : LineStep}
    (h : (BusElement.received last).steps[i]? = some step) : step.samples = decide (i < 24 ∧ i % 3 = 2) := by
  have hi : i < 27 := by
    obtain ⟨hi, -⟩ := List.getElem?_eq_some_iff.1 h
    exact hi
  have hall : ∀ last : Bool, ∀ i : Fin 27, ((BusElement.received last).steps[i.val]?.map LineStep.samples) =
      some (decide (i.val < 24 ∧ i.val % 3 = 2)) := by decide
  simpa [h] using hall last ⟨i, hi⟩

/-- A start and a stop sample nothing (R104). -/
theorem conditionSteps_samples {e : BusElement} (he : e = .start ∨ e = .repeatedStart ∨ e = .stop) {step : LineStep}
    (h : step ∈ e.steps) : step.samples = false := by
  obtain rfl | rfl | rfl := he <;> revert step <;> decide

/-- The element in progress has the line steps of its phase (R101, R104). -/
theorem Attempt.elementSteps_length {a : Attempt} (hp : a.phase ≠ .busCheck)
    (hw : a.phase = .writeBytes → a.completed < a.writeBytes.length) : a.elementSteps.length = a.phase.length := by
  unfold Attempt.elementSteps Attempt.element
  cases h : a.phase with
  | busCheck => exact absurd h hp
  | writeBytes => simp [hw h, TransferPhase.length, BusElement.steps_sent]
  | writeAddress | readAddress => exact sentSteps_length _
  | readBytes =>
    have : ∀ last : Bool, (BusElement.received last).steps.length = 27 := by decide
    exact this _
  | start | repeatedStart | stop => rfl

/-! ### Attempts in place -/

/-- An attempt that may go on from the element in progress, by the bytes completed with it (R107, R108). -/
def Attempt.MayMoveOn (a : Attempt) : Prop :=
  match a.phase with
  | .busCheck | .stop => False
  | .start | .writeAddress => a.completed = 0
  | .writeBytes => a.completed ≤ a.writeBytes.length
  | .repeatedStart | .readAddress => a.readCount.isSome = true ∧ a.completed = a.writeBytes.length
  | .readBytes => a.readCount.isSome = true ∧ a.writeBytes.length ≤ a.completed ∧ a.completed ≤ a.total

/-- At its first line step, with nothing sampled, an attempt is in place where its phase agrees. -/
theorem Attempt.inPlace_of_fresh {a : Attempt} (hs : a.sampled = []) (hl : a.lineStep = 0) (hb : a.phase ≠ .busCheck)
    (hr : a.refused = none ∨ a.phase = .stop) (hp : a.phaseAgrees = true) :
    (Engine.transferring a).inPlace = true := by
  have hsample : a.samplesAgree = true := by
    unfold Attempt.samplesAgree
    obtain hr | hr := hr <;> cases h : a.phase <;> simp_all
  have hstep : decide (a.lineStep < a.phase.length) = true := by
    rw [hl]; cases a.phase <;> rfl
  simp [Engine.inPlace, hp, hsample, hstep, hb]

/-- The element finished, the attempt is in place at the next (R107, R108). -/
theorem Attempt.moveOn_inPlace {a : Attempt} (hr : a.refused = none) (h : a.MayMoveOn) :
    (Engine.transferring a.moveOn).inPlace = true := by
  unfold Attempt.MayMoveOn at h
  have hnext : a.nextPhase ≠ .busCheck ∧ a.moveOn.phaseAgrees = true := by
    have htotal : a.readCount = none → a.total = a.writeBytes.length := by
      intro h; simp [Attempt.total, h]
    have hsome : ∀ n, a.readCount = some n → a.total = a.writeBytes.length + n := by
      intro n h; simp [Attempt.total, h]
    have htot : a.moveOn.total = a.total := rfl
    unfold Attempt.phaseAgrees
    rw [htot]
    simp only [Attempt.moveOn_phase, Attempt.moveOn_completed, Attempt.moveOn_writeBytes, Attempt.moveOn_readCount,
      Attempt.moveOn_refused, Attempt.moveOn_lineStep, hr]
    unfold Attempt.nextPhase
    cases hphase : a.phase <;> simp only [hphase] at h ⊢
    case start =>
      split <;> simp_all
    case writeAddress =>
      cases hc : a.readCount <;> (split <;> simp_all)
    case writeBytes =>
      cases hc : a.readCount <;> (split <;> simp_all) <;> omega
    case repeatedStart => simp_all
    case readAddress =>
      have hge : a.writeBytes.length ≤ a.total := Nat.le_add_right _ _
      split <;> simp_all
      omega
    case readBytes =>
      split <;> simp_all
      omega
  exact Attempt.inPlace_of_fresh rfl rfl hnext.1 (.inl hr) hnext.2

/-- What is in place, part by part. -/
theorem Attempt.inPlace_iff (a : Attempt) :
    (Engine.transferring a).inPlace = true ↔
      a.phaseAgrees = true ∧ a.samplesAgree = true ∧ a.phase ≠ .busCheck ∧ a.lineStep < a.phase.length := by
  simp [Engine.inPlace, and_assoc]

/-- Only in a stop has a byte been refused. -/
theorem Attempt.refused_eq_none {a : Attempt} (h : a.samplesAgree = true) (hp : a.phase ≠ .stop) :
    a.refused = none := by
  unfold Attempt.samplesAgree at h
  simp [hp] at h
  exact h.2

/-- A completed byte leaves a transfer in place (R107 to R109). -/
theorem Attempt.complete_inPlace {a a' : Attempt} {value : Byte} (ha : a.complete value = some a') :
    (Engine.transferring a').inPlace = true := by
  obtain ⟨hr, ⟨hlt, rfl⟩ | ⟨hle, hlt, rfl⟩⟩ := Attempt.complete_cases ha
  · exact Attempt.moveOn_inPlace hr hlt
  · have hsome : a.readCount.isSome = true := by
      cases hc : a.readCount with
      | none => simp [Attempt.total, hc] at hlt; omega
      | some n => rfl
    have htot : a.writeBytes.length + a.readCount.getD 0 = a.total := rfl
    rw [Attempt.inPlace_iff]
    simp [Attempt.phaseAgrees, Attempt.samplesAgree, TransferPhase.length, bitSteps, hsome, hr, Attempt.total]
    omega

/-- A refused byte leaves a transfer in place, in its stop (R107, R108). -/
theorem Attempt.refuse_inPlace {a : Attempt} {byte : RefusedByte}
    (haddress : byte = .address → a.completed = 0 ∨ (a.readCount.isSome = true ∧ a.completed = a.writeBytes.length))
    (hdata : byte = .data → a.completed < a.writeBytes.length) :
    (Engine.transferring (a.refuse byte)).inPlace = true := by
  refine Attempt.inPlace_of_fresh rfl rfl TransferPhase.noConfusion (.inr rfl) ?_
  cases byte with
  | address => simpa [Attempt.phaseAgrees] using haddress rfl
  | data => exact decide_eq_true (hdata rfl)

/-! ### Ticks -/

/-- A sampled line leaves a transfer in place (R104, R107, R108). -/
theorem Attempt.sample_inPlace {a : Attempt} (h : (Engine.transferring a).inPlace = true) {step : LineStep}
    (hstep : a.elementSteps[a.lineStep]? = some step) (hs : step.samples = true) (high : Bool) :
    (Engine.transferring (a.sample high)).inPlace = true := by
  obtain ⟨hp, hsa, hb, hl⟩ := (Attempt.inPlace_iff a).1 h
  unfold Attempt.sample
  cases hphase : a.phase with
  | busCheck => exact absurd hphase hb
  | start | repeatedStart | stop => exact h
  | writeAddress =>
    have hr := Attempt.refused_eq_none hsa (by rw [hphase]; decide)
    have hc : a.completed = 0 := by simpa [Attempt.phaseAgrees, hphase] using hp
    cases high with
    | true => exact Attempt.refuse_inPlace (fun _ => .inl hc) RefusedByte.noConfusion
    | false => exact Attempt.moveOn_inPlace hr (by simpa [Attempt.MayMoveOn, hphase] using hc)
  | readAddress =>
    have hr := Attempt.refused_eq_none hsa (by rw [hphase]; decide)
    have hc : a.readCount.isSome = true ∧ a.completed = a.writeBytes.length := by
      simpa [Attempt.phaseAgrees, hphase] using hp
    cases high with
    | true => exact Attempt.refuse_inPlace (fun _ => .inr hc) RefusedByte.noConfusion
    | false => exact Attempt.moveOn_inPlace hr (by simpa [Attempt.MayMoveOn, hphase] using hc)
  | writeBytes =>
    have hr := Attempt.refused_eq_none hsa (by rw [hphase]; decide)
    have hc : a.completed < a.writeBytes.length := by simpa [Attempt.phaseAgrees, hphase] using hp
    by_cases hn : a.sampled ≠ []
    · rw [if_pos hn]; exact h
    · rw [if_neg hn]
      cases high with
      | true => exact Attempt.refuse_inPlace RefusedByte.noConfusion fun _ => hc
      | false =>
        have hl26 : a.lineStep = 26 := by
          simp only [Attempt.elementSteps, Attempt.element, hphase, List.getElem?_eq_getElem hc, Option.map_some,
            Option.elim, BusElement.steps_sent] at hstep
          rw [sentSteps_samples hstep] at hs
          exact of_decide_eq_true hs
        rw [Attempt.inPlace_iff]
        simp [Attempt.phaseAgrees, Attempt.samplesAgree, TransferPhase.length, hr, hc, hl26]
  | readBytes =>
    have hr := Attempt.refused_eq_none hsa (by rw [hphase]; decide)
    have hline : a.lineStep < 24 ∧ a.lineStep % 3 = 2 := by
      simp only [Attempt.elementSteps, Attempt.element, hphase, Option.elim] at hstep
      rw [receivedSteps_samples hstep] at hs
      exact of_decide_eq_true hs
    obtain ⟨h24, hm⟩ := hline
    by_cases h8 : 8 ≤ a.sampled.length
    · rw [if_pos h8]; exact h
    · rw [if_neg h8]
      have hlen : a.sampled.length = a.lineStep / 3 := by
        have hlen : a.sampled.length = a.lineStep / 3 ∨ a.lineStep = 23 ∧ a.sampled.length = 8 := by
          simpa [Attempt.samplesAgree, hphase, hr, Nat.not_le.2 h24] using hsa
        omega
      have hc : a.readCount.isSome = true ∧ a.writeBytes.length ≤ a.completed ∧ a.completed < a.total := by
        simpa [Attempt.phaseAgrees, hphase, h24] using hp
      obtain ⟨hsome, hle, hlt⟩ := hc
      by_cases h7 : a.sampled.length = 7
      · rw [if_pos h7, Attempt.inPlace_iff]
        have hl23 : a.lineStep = 23 := by omega
        simp [Attempt.phaseAgrees, Attempt.samplesAgree, TransferPhase.length, hr, hl23, h7, hsome, hle]
        exact hlt
      · rw [if_neg h7, Attempt.inPlace_iff]
        have hl24 : a.lineStep + 1 < 24 := by omega
        have hdiv : (a.lineStep + 1) / 3 = a.lineStep / 3 + 1 := by omega
        simp [Attempt.phaseAgrees, Attempt.samplesAgree, TransferPhase.length, hr, hl24, Nat.not_le.2 hl24, hdiv,
          hlen, hsome, hle]
        exact ⟨hlt, by omega⟩

/-- The next line step of the element, or the next element, leaves a transfer in place (R101, R104). -/
theorem Attempt.advance_inPlace {a : Attempt} (h : (Engine.transferring a).inPlace = true) {step : LineStep}
    (hstep : a.elementSteps[a.lineStep]? = some step) (hs : step.samples = false) :
    (Engine.transferring a.advance).inPlace = true := by
  obtain ⟨hp, hsa, hb, hl⟩ := (Attempt.inPlace_iff a).1 h
  have hlen : a.elementSteps.length = a.phase.length :=
    Attempt.elementSteps_length hb fun hw => by simpa [Attempt.phaseAgrees, hw] using hp
  unfold Attempt.advance
  rw [hlen]
  by_cases hnext : a.lineStep + 1 < a.phase.length
  · rw [if_pos hnext, Attempt.inPlace_iff]
    refine ⟨?_, ?_, hb, hnext⟩
    · cases hphase : a.phase with
      | readBytes =>
        simp only [Attempt.elementSteps, Attempt.element, hphase, Option.elim] at hstep
        rw [receivedSteps_samples hstep, decide_eq_false_iff_not] at hs
        have h24 : a.lineStep + 1 < 24 ↔ a.lineStep < 24 := by omega
        simp only [Attempt.phaseAgrees, hphase, h24] at hp ⊢
        exact hp
      | busCheck | start | repeatedStart | writeAddress | readAddress | writeBytes | stop =>
        simp only [Attempt.phaseAgrees, hphase] at hp ⊢
        exact hp
    · cases hphase : a.phase with
      | readBytes =>
        simp only [Attempt.elementSteps, Attempt.element, hphase, Option.elim] at hstep
        rw [receivedSteps_samples hstep, decide_eq_false_iff_not] at hs
        have h24 : 24 ≤ a.lineStep + 1 ↔ 24 ≤ a.lineStep := by omega
        have h23 : a.lineStep ≠ 23 := by omega
        simp only [Attempt.samplesAgree, hphase, h24] at hsa ⊢
        by_cases hge : 24 ≤ a.lineStep
        · simpa [hge] using hsa
        · have hdiv : (a.lineStep + 1) / 3 = a.lineStep / 3 := by omega
          simp [hge, h23] at hsa
          simp [hge, hdiv, hsa]
      | writeBytes =>
        have h26 : a.lineStep ≠ 26 := by rw [hphase, TransferPhase.length] at hnext; omega
        simp [Attempt.samplesAgree, hphase, h26] at hsa ⊢
        simp [hsa]
      | busCheck | start | repeatedStart | writeAddress | readAddress | stop =>
        simpa [Attempt.samplesAgree, hphase] using hsa
  · rw [if_neg hnext]
    by_cases hstop : a.phase = .stop
    · rw [if_pos hstop]; exact h
    · rw [if_neg hstop]
      have hr := Attempt.refused_eq_none hsa hstop
      have hlast : a.lineStep + 1 = a.phase.length := by omega
      refine Attempt.moveOn_inPlace hr ?_
      unfold Attempt.MayMoveOn
      have hno : ∀ b, a.element = some (.address b) ∨ a.element = some (.sent b) → a.lineStep ≠ 26 := by
        rintro b he rfl26
        have : a.elementSteps = sentSteps b := by obtain he | he := he <;> simp [Attempt.elementSteps, he] <;> rfl
        rw [this] at hstep
        rw [sentSteps_samples hstep, rfl26] at hs
        cases hs
      cases hphase : a.phase <;> simp only [hphase, TransferPhase.length] at hlast hb hstop ⊢
      case start => simpa [Attempt.phaseAgrees, hphase] using hp
      case repeatedStart => simpa [Attempt.phaseAgrees, hphase] using hp
      case readBytes =>
        have h24 : ¬a.lineStep < 24 := by omega
        have hc : a.readCount.isSome = true ∧ a.writeBytes.length < a.completed ∧ a.completed ≤ a.total := by
          simpa [Attempt.phaseAgrees, hphase, h24] using hp
        exact ⟨hc.1, hc.2.1.le, hc.2.2⟩
      case writeBytes =>
        have hc : a.completed < a.writeBytes.length := by simpa [Attempt.phaseAgrees, hphase] using hp
        exact absurd (by omega) (hno a.writeBytes[a.completed] (.inr (by simp [Attempt.element, hphase, hc])))
      case writeAddress => exact absurd (by omega) (hno _ (.inl (by rw [Attempt.element, hphase])))
      case readAddress => exact absurd (by omega) (hno _ (.inl (by rw [Attempt.element, hphase])))
      all_goals contradiction

/-- A tick leaves a transfer in place. -/
theorem Attempt.tick_inPlace {a : Attempt} (h : (Engine.transferring a).inPlace = true) (reading : BusLines) :
    (Engine.transferring (a.tick reading)).inPlace = true := by
  unfold Attempt.tick
  split
  next => exact h
  next step hstep =>
    split
    next => exact h
    next =>
      cases hs : step.samples with
      | true => exact Attempt.sample_inPlace h hstep hs _
      | false => exact Attempt.advance_inPlace h hstep hs

/-- A tick leaves an abort in place (R115). -/
theorem abortTick_inPlace {a : Attempt} {finishing : BusElement} (h : (Engine.aborting a finishing).inPlace = true)
    (reading : BusLines) : (abortTick a finishing reading).inPlace = true := by
  unfold abortTick
  split
  next => exact h
  next =>
    split
    next => exact h
    next =>
      split
      next hlt => exact decide_eq_true hlt
      next =>
        split
        next => exact h
        next => rfl

/-- What is in place of a clear, part by part. -/
theorem BusClear.inPlace_of_fresh {b : BusClear} (hl : b.lineStep = 0)
    (hp : match b.stage with
      | .release => b.pulses = 0
      | .pulse => b.pulses < 9
      | .stop | .ended _ => b.pulses ≤ 9) : b.inPlace = true := by
  unfold BusClear.inPlace
  cases hs : b.stage <;> simp_all [ClearStage.steps, clockPeriod, stopSteps]

/-- A tick leaves a clear in place (R112). -/
theorem BusClear.tick_inPlace {b : BusClear} (h : b.inPlace = true) (reading : BusLines) :
    (b.tick reading).inPlace = true := by
  obtain ⟨speed, pulses, stage, lineStep⟩ := b
  unfold BusClear.tick
  split
  next => exact h
  next step hstep =>
    split
    next => exact h
    next =>
      split
      next hs =>
        cases stage with
        | release =>
          have hz : pulses = 0 := by
            simp [BusClear.inPlace] at h; exact h.2
          rw [if_neg (fun h => nomatch h)]
          simp only [BusClear.read]
          cases reading.sdaHigh <;> exact BusClear.inPlace_of_fresh rfl (by simp [hz])
        | pulse =>
          have hz : pulses < 9 := by
            simp [BusClear.inPlace] at h; exact h.2
          rw [if_neg (fun h => nomatch h)]
          simp only [BusClear.read]
          cases reading.sdaHigh with
          | true => exact BusClear.inPlace_of_fresh rfl (by simp; omega)
          | false =>
            simp only [Bool.false_eq_true, if_false]
            split
            next h9 => exact BusClear.inPlace_of_fresh rfl h9
            next => exact BusClear.inPlace_of_fresh rfl (by simp; omega)
        | stop =>
          have hz : pulses ≤ 9 := by
            simp [BusClear.inPlace] at h; exact h.2
          rw [if_pos rfl]
          exact BusClear.inPlace_of_fresh rfl hz
        | ended => rw [if_neg ClearStage.noConfusion]; exact h
      next =>
        split
        next hlt => simp_all [BusClear.inPlace]
        next => exact h

/-- A tick leaves every engine in place. -/
theorem Engine.tick_inPlace {e : Engine} (h : e.inPlace = true) (reading : Option BusLines) :
    (e.tick reading).inPlace = true := by
  cases reading with
  | none => cases e <;> exact h
  | some r =>
    cases e with
    | transferring a => exact Attempt.tick_inPlace h r
    | aborting a finishing => exact abortTick_inPlace h r
    | clearing purpose b =>
      simp only [Engine.inPlace, Bool.and_eq_true] at h
      simp only [Engine.tick, Option.elim, Engine.inPlace, BusClear.tick_inPlace h.1, Bool.true_and]
      exact h.2
    | off | idle | pulsing | hung => rfl

end Sys2Proof.Machine
end

section
/-! PROOFS. The ACTIVE entry and the engine's work (O8): every move of a connector and every tick keep them in step. -/

namespace Sys2Proof.Machine

/-! ### Queues with and without an ACTIVE entry -/

/-- No entry of the list is ACTIVE. -/
def noneActive (q : List Entry) : Prop := ∀ x ∈ q, x.state ≠ .active

theorem noneActive_iff_countP (q : List Entry) : noneActive q ↔ q.countP (fun x => x.state == .active) = 0 := by
  simp [noneActive]

/-- What OneActive says of the work where no entry is ACTIVE. -/
theorem Connector.oneActive_of_none {k : Connector} (hq : noneActive k.queue) (hw : k.workAgrees = true)
    (hp : k.engine.inPlace = true) : k.OneActive := by
  have ha : k.activeEntry = none := Connector.activeEntry_eq_none.2 hq
  have hc : k.countIn .active = 0 := (noneActive_iff_countP _).1 hq
  exact ⟨by omega, by simp [ha], hw, hp⟩

/-- What OneActive says of the work where one entry is ACTIVE. -/
theorem Connector.oneActive_of_one {k : Connector} {older younger : List Entry} {e : Entry}
    (hq : k.queue = older ++ e :: younger) (ho : noneActive older) (hy : noneActive younger)
    (hu : k.state.usable = true) (hw : k.workAgrees = true) (hp : k.engine.inPlace = true) : k.OneActive := by
  have hc : k.countIn .active ≤ 1 := by
    rw [Connector.countIn, hq, List.countP_append, List.countP_cons, (noneActive_iff_countP _).1 ho,
      (noneActive_iff_countP _).1 hy]
    split <;> omega
  exact ⟨hc, fun _ => hu, hw, hp⟩

/-- At most one entry is ACTIVE: the others are not. -/
theorem Connector.OneActive.split {k : Connector} (h : k.OneActive) {e : Entry} (he : k.activeEntry = some e) :
    ∃ older younger, k.queue = older ++ e :: younger ∧ noneActive older ∧ noneActive younger := by
  obtain ⟨hc, -⟩ := h
  obtain ⟨hp, older, younger, hq, ho⟩ := List.find?_eq_some_iff_append.1 he
  refine ⟨older, younger, hq, fun x hx => by simpa using ho x hx, ?_⟩
  rw [Connector.countIn, hq, List.countP_append, List.countP_cons, if_pos hp] at hc
  exact (noneActive_iff_countP _).2 (by omega)

/-- An ACTIVE entry of the queue is the ACTIVE entry. -/
theorem Connector.OneActive.activeEntry_of_mem {k : Connector} (h : k.OneActive) {e : Entry} (hm : e ∈ k.queue)
    (ha : e.state = .active) : k.activeEntry = some e := by
  cases he : k.activeEntry with
  | none => exact absurd ha (Connector.activeEntry_eq_none.1 he e hm)
  | some x =>
    obtain ⟨older, younger, hq, ho, hy⟩ := h.split he
    rw [hq, List.mem_append, List.mem_cons] at hm
    obtain hm | rfl | hm := hm
    · exact absurd ha (ho e hm)
    · rfl
    · exact absurd ha (hy e hm)

/-- OneActive looks at the queue, the state and the engine. -/
theorem Connector.OneActive.congr {k k' : Connector} (h : k.OneActive) (hq : k'.queue = k.queue)
    (he : k'.engine = k.engine) (hs : k.state.usable = true → k'.state.usable = true) : k'.OneActive := by
  obtain ⟨hc, hu, hw, hp⟩ := h
  have ha : k'.activeEntry = k.activeEntry := by rw [Connector.activeEntry, Connector.activeEntry, hq]
  refine ⟨?_, ?_, ?_, by rw [he]; exact hp⟩
  · rw [Connector.countIn, hq]; exact hc
  · rw [ha]; exact fun h => hs (hu h)
  · rw [Connector.workAgrees, he, ha]; exact hw

/-- Where the bus may not be used no entry is ACTIVE (R75). -/
theorem Connector.OneActive.none_of_unusable {k : Connector} (h : k.OneActive) (hu : k.state.usable = false) :
    noneActive k.queue := by
  obtain ⟨-, hus, -⟩ := h
  refine Connector.activeEntry_eq_none.1 ?_
  cases ha : k.activeEntry with
  | none => rfl
  | some e => rw [hus (by rw [ha]; rfl)] at hu; cases hu

/-! ### Work without an entry -/

/-- An engine that works for no entry agrees with a queue without an ACTIVE one. -/
def Engine.free : Engine → Bool
  | .off | .idle | .hung | .aborting _ _ | .clearing .afterStretch _ | .clearing (.beforeTransfer _ true) _
  | .clearing .requested _ => true
  | .clearing (.beforeTransfer _ false) _ | .transferring _ | .pulsing _ => false

/-- Only an engine that is free agrees with a queue without an ACTIVE entry. -/
theorem Connector.workAgrees_of_none {k : Connector} (ha : k.activeEntry = none) :
    k.workAgrees = k.engine.free := by
  unfold Connector.workAgrees
  rw [ha]
  cases k.engine with
  | clearing purpose b =>
    cases purpose with
    | beforeTransfer a aborted => cases aborted <;> rfl
    | requested | afterStretch => rfl
  | _ => rfl

/-- Work that is left leaves the engine free. -/
theorem Engine.Drops.free {e e' : Engine} (h : Engine.Drops e e') : e'.free = true := by
  cases h <;> rfl

/-- An abandoned engine has no ACTIVE entry (R111, R115, R116). -/
theorem Connector.OneActive.none_of_abandoned {k : Connector} (h : k.OneActive) (ha : k.engine.abandoned = true) :
    k.activeEntry = none := by
  obtain ⟨-, -, hw, -⟩ := h
  unfold Connector.workAgrees at hw
  revert hw ha
  cases k.engine with
  | clearing purpose b =>
    cases purpose with
    | beforeTransfer a aborted => cases aborted <;> simp [Engine.abandoned]
    | requested | afterStretch => simp [Engine.abandoned]
  | _ => simp [Engine.abandoned]

/-- The element an abort finishes has the line steps of the phase it was taken in (R115). -/
theorem Attempt.finishing_steps_length {a : Attempt} (h : (Engine.transferring a).inPlace = true) :
    a.finishing.steps.length = a.phase.length := by
  obtain ⟨hp, -, hb, -⟩ := (Attempt.inPlace_iff a).1 h
  have hreceived : ∀ last : Bool, (BusElement.received last).steps.length = 27 := by decide
  unfold Attempt.finishing Attempt.element
  cases hphase : a.phase with
  | busCheck => exact absurd hphase hb
  | start | repeatedStart | stop => rfl
  | writeAddress | readAddress => exact sentSteps_length _
  | writeBytes =>
    have hc : a.completed < a.writeBytes.length := by simpa [Attempt.phaseAgrees, hphase] using hp
    simp only [List.getElem?_eq_getElem hc, Option.map_some]
    exact sentSteps_length _
  | readBytes => exact hreceived _

/-- Work that is left leaves the engine in place. -/
theorem Engine.Drops.inPlace {e e' : Engine} (h : Engine.Drops e e') (hp : e.inPlace = true) : e'.inPlace = true := by
  cases h with
  | attemptEnds | pulseEnds | abortEnds | clearEnds | clearFails | attemptStretched | abortStretched => rfl
  | attemptAborted a =>
    obtain ⟨-, -, -, hl⟩ := (Attempt.inPlace_iff a).1 hp
    exact decide_eq_true (by rw [Attempt.finishing_steps_length hp]; exact hl)
  | clearAborted a aborted b => exact hp

/-- An engine that leaves work, on a connector without an ACTIVE entry (R75). -/
theorem Connector.OneActive.dropWork {k k' : Connector} (h : k.OneActive) {engine : Engine}
    (hd : Engine.Drops k.engine engine) (hq : noneActive k'.queue) (he : k'.engine = engine) : k'.OneActive := by
  obtain ⟨-, -, -, hp⟩ := h
  refine Connector.oneActive_of_none hq ?_ ?_
  · rw [Connector.workAgrees_of_none (Connector.activeEntry_eq_none.2 hq), he]; exact hd.free
  · rw [he]; exact hd.inPlace hp

/-! ### Ends of entries -/

/-- Where the ACTIVE entry leaves, none is left. -/
theorem Connector.OneActive.noneActive_without {k : Connector} (h : k.OneActive) (hd : k.tags.Nodup) {e : Entry}
    (hm : e ∈ k.queue) (ha : e.state = .active) : noneActive (k.without e.tag).queue := by
  obtain ⟨older, younger, hq, ho, hy⟩ := h.split (h.activeEntry_of_mem hm ha)
  have hw : (k.without e.tag).queue = older ++ younger := by
    rw [Connector.without, hq]
    rw [Connector.tags, hq] at hd
    exact eraseP_append_cons (tag_ne_of_nodup hd) (by simp)
  rw [hw]
  intro x hx
  obtain hx | hx := List.mem_append.1 hx
  · exact ho x hx
  · exact hy x hx

/-- A drain that completes leaves nothing to be ACTIVE. -/
theorem Connector.OneActive.drained {k : Connector} (h : k.OneActive) : k.drained.OneActive := by
  unfold Connector.drained
  split
  next => exact Connector.oneActive_of_none (by simp [noneActive]) rfl rfl
  next => exact h

/-- Where an entry that is not ACTIVE leaves, the ACTIVE one stands. -/
theorem Connector.OneActive.without_of_not_active {k : Connector} (h : k.OneActive) (hd : k.tags.Nodup) {e : Entry}
    (hm : e ∈ k.queue) (ha : e.state ≠ .active) : (k.without e.tag).OneActive := by
  obtain ⟨older, younger, hq⟩ := List.append_of_mem hm
  have hw : (k.without e.tag).queue = older ++ younger := by
    rw [Connector.without, hq]
    rw [Connector.tags, hq] at hd
    exact eraseP_append_cons (tag_ne_of_nodup hd) (by simp)
  have hactive : (k.without e.tag).activeEntry = k.activeEntry := by
    rw [Connector.activeEntry, Connector.activeEntry, hw, hq, List.find?_append, List.find?_append,
      List.find?_cons_of_neg (by simpa using ha)]
  obtain ⟨hc, hu, hwork, hp⟩ := h
  refine ⟨?_, by rw [hactive]; exact hu, ?_, hp⟩
  · have hsub : (k.without e.tag).queue.Sublist k.queue := List.eraseP_sublist
    exact (hsub.countP_le).trans hc
  · rw [Connector.workAgrees, hactive]; exact hwork

/-! ### Starts -/

/-- The work of a start is that of its entry, at its beginning (R78, R80, R103, R106). -/
theorem Connector.workFor_oneActive {k k' : Connector} {e : Entry} {lines : BusLines} {older younger : List Entry}
    (hk : e.kind ≠ .fence) (he : k'.engine = k.workFor e lines)
    (hq : k'.queue = older ++ { e with state := .active, acked := 0 } :: younger) (ho : noneActive older)
    (hy : noneActive younger) (hu : k'.state.usable = true) : k'.OneActive := by
  have ha : k'.activeEntry = some { e with state := .active, acked := 0 } :=
    Connector.activeEntry_of_queue hq ho rfl
  have hwork : k'.workAgrees = true ∧ k'.engine.inPlace = true := by
    unfold Connector.workAgrees
    rw [he, ha]
    unfold Connector.workFor
    cases h : e.kind with
    | fence => exact absurd h hk
    | postWrite | write | read =>
      simp only
      cases linesFree lines <;>
        simp [Entry.runs, Attempt.ofEntry, Engine.inPlace, BusClear.inPlace, BusClear.begun, ClearStage.steps,
          Attempt.phaseAgrees, Attempt.samplesAgree, TransferPhase.length]
    | pulseReset => simp [Engine.inPlace]
    | clearBus => simp [Engine.inPlace, BusClear.inPlace, BusClear.begun, ClearStage.steps]
  exact Connector.oneActive_of_one hq ho hy hu hwork.1 hwork.2

/-- A change of the entry that a tag finds, where it neither was nor becomes ACTIVE. -/
theorem find?_updateFirst_of_not {p r : Entry → Bool} {f : Entry → Entry} {q : List Entry} {e : Entry}
    (h : q.find? r = some e) (he : p e = false) (hf : p (f e) = false) :
    (updateFirst r f q).find? p = q.find? p ∧ (updateFirst r f q).countP p = q.countP p := by
  induction q with
  | nil => cases h
  | cons x q ih =>
    cases hr : r x with
    | true =>
      rw [List.find?_cons_of_pos hr] at h
      cases h
      simp [updateFirst, hr, he, hf]
    | false =>
      rw [List.find?_cons_of_neg (by simp [hr])] at h
      obtain ⟨hfind, hcount⟩ := ih h
      simp only [updateFirst, hr, Bool.false_eq_true, if_false, List.find?_cons, List.countP_cons, hfind, hcount,
        and_self]

/-! ### Moves -/

/-- What a transfer in progress says of its entry. -/
theorem Connector.OneActive.runs_of_transferring {k : Connector} (h : k.OneActive) {a : Attempt}
    (he : k.engine = .transferring a) :
    ∃ e, k.activeEntry = some e ∧ e.runs a = true ∧ k.state.usable = true := by
  obtain ⟨-, hu, hw, -⟩ := h
  rw [Connector.workAgrees, he] at hw
  obtain ⟨e, ha, hr⟩ := Option.any_eq_true _ _ |>.1 hw
  exact ⟨e, ha, hr, hu (by rw [ha]; rfl)⟩

/-- The clear before a transfer has ended: the attempt begins (R106). -/
theorem Connector.OneActive.beginTransfer {k : Connector} (hk : k.OneActive) {a : Attempt} {b : BusClear}
    (h : k.engine = .clearing (.beforeTransfer a false) b) :
    ({ k with engine := .transferring a.begun } : Connector).OneActive := by
  obtain ⟨hc, hu, hw, hp⟩ := hk
  rw [Connector.workAgrees, h] at hw
  rw [h] at hp
  obtain ⟨e, ha, hr⟩ := Option.any_eq_true _ _ |>.1 hw
  simp only [Bool.and_eq_true, beq_iff_eq, Engine.inPlace] at hr hp
  obtain ⟨-, ⟨hphase, hcomp⟩, hsamp⟩ := hp
  have hrefused : a.refused = none := Attempt.refused_eq_none hsamp (by rw [hphase]; decide)
  refine ⟨hc, hu, ?_, Attempt.inPlace_of_fresh rfl rfl TransferPhase.noConfusion (.inl hrefused) ?_⟩
  · have ha' : ({ k with engine := .transferring a.begun } : Connector).activeEntry = some e := ha
    rw [Connector.workAgrees, ha']
    exact hr.1
  · simpa [Attempt.phaseAgrees] using hcomp

/-- A completed byte is counted in the ACTIVE entry (R78, R109). -/
theorem Connector.OneActive.byteCompleted {k : Connector} (hk : k.OneActive) {a a' : Attempt} {value : Byte}
    (h : k.engine = .transferring a) (ha : a.complete value = some a') :
    ({ k with
      engine := .transferring a'
      queue := updateFirst (fun e => e.state == .active) (fun e => { e with acked := a'.completed }) k.queue } :
        Connector).OneActive := by
  obtain ⟨e, he, hr, hu⟩ := hk.runs_of_transferring h
  obtain ⟨older, younger, hq, ho, hy⟩ := hk.split he
  have hstate := (Connector.activeEntry_some he).2
  rw [hq, updateFirst_append_cons _ (by simpa [noneActive] using ho) (by simp [hstate])]
  refine Connector.oneActive_of_one rfl ho hy hu ?_ (Attempt.complete_inPlace ha)
  unfold Connector.workAgrees
  rw [Connector.activeEntry_of_queue (e := { e with acked := a'.completed }) rfl ho hstate]
  obtain ⟨-, ⟨-, rfl⟩ | ⟨-, -, rfl⟩⟩ := Attempt.complete_cases ha <;> simp_all [Entry.runs]

/-- A retry interval's end returns its entry to WAITING (R84). -/
theorem Connector.OneActive.retried {k : Connector} (hk : k.OneActive) {tag : Byte} {e : Entry}
    (he : k.entryOf tag = some e) (hs : e.state = .backoff) :
    ({ k with
      queue :=
        updateFirst (fun e => e.tag == tag) (fun e => { e with state := .waiting, retryTimer := none }) k.queue } :
        Connector).OneActive := by
  obtain ⟨hfind, hcount⟩ := find?_updateFirst_of_not (p := fun x => x.state == .active)
    (f := fun e => { e with state := .waiting, retryTimer := none }) he (by simp [hs]) rfl
  obtain ⟨hc, hu, hw, hp⟩ := hk
  refine ⟨hcount.trans_le hc, fun h => hu ((congrArg Option.isSome hfind).symm.trans h), ?_, hp⟩
  rw [← hw]
  unfold Connector.workAgrees
  rw [show ({ k with queue := _ } : Connector).activeEntry = k.activeEntry from hfind]

/-- Work that an abort does not end does not wait for an ACTIVE entry that has ended (R91). -/
theorem Engine.free_of_not_abortable {engine : Engine} (h : engine.abortable = false) : engine.free = true := by
  cases engine with
  | clearing purpose b =>
    cases purpose with
    | beforeTransfer => cases h
    | requested | afterStretch => rfl
  | transferring | pulsing => cases h
  | off | idle | aborting | hung => rfl

/-- Every move of a connector keeps its ACTIVE entry and its engine's work in step (R75, R78, R101). -/
theorem Site.Move.oneActive {t u : Site} (h : Site.Move t u) (hd : t.conn.tags.Nodup) (hk : t.conn.OneActive) :
    u.conn.OneActive := by
  cases h with
  | presence => rw [Site.presenceInput_conn]; exact hk
  | attention => rw [Site.attnInput_conn]; exact hk
  | configure | unqualify | window => exact hk
  | steady | arm => rw [Site.attentionCheck_conn]; exact hk
  | review oc pg inrush hi hq =>
    obtain ⟨_, hconn, -⟩ := Site.reviewFault_conn (u := t.setConn _) hq
    rw [hconn]; exact hk
  | cut => rw [Site.powerCut_settle]; exact Connector.oneActive_of_none (by simp [noneActive]) rfl rfl
  | cutToRetry oc pg inrush qualify status cause delay hp u hu =>
    rw [hu, Site.powerCut_settle]
    exact Connector.oneActive_of_none (by simp [noneActive]) rfl rfl
  | settle debounce dest cause hp =>
    refine hk.congr rfl rfl fun h => ?_
    rw [ConnState.powered_of_usable h] at hp; cases hp
  | powerUp cause h =>
    refine hk.congr rfl rfl fun hu => ?_
    obtain h | h := h <;> rw [h] at hu <;> cases hu
  | powerGood h =>
    rw [Site.attentionCheck_conn]
    exact Connector.oneActive_of_none (hk.none_of_unusable (by rw [h]; rfl))
      (Connector.workAgrees_of_none (Connector.activeEntry_eq_none.2 (hk.none_of_unusable (by rw [h]; rfl)))) rfl
  | resume h => rw [Site.attentionCheck_conn]; exact hk.congr rfl rfl fun _ => rfl
  | drain h => exact hk.congr rfl rfl fun _ => rfl
  | start e lines hm hc he =>
    have hfence := kind_ne_fence_of_endsAtStart he
    obtain ⟨hu, -, hnone⟩ := (Connector.mayStart_iff _).1 hm
    have hnone : noneActive t.conn.queue := Connector.activeEntry_eq_none.1 hnone
    obtain ⟨older, younger, hq⟩ := List.append_of_mem (chooseFrom_some hc).1
    rw [hq] at hnone
    rw [Connector.tags, hq] at hd
    rw [t.launch_eq e lines hfence]
    refine Connector.workFor_oneActive (k := t.conn) (lines := lines) hfence rfl (older := older) (younger := younger) ?_
      (fun x hx => hnone x (by simp [hx])) (fun x hx => hnone x (by simp [hx])) hu
    rw [Site.setConn_conn, hq]
    exact updateFirst_append_cons _ (tag_ne_of_nodup hd) (by simp)
  | beginTransfer a b h => exact hk.beginTransfer h
  | byte a a' value h ha => exact hk.byteCompleted h ha
  | backoff a e timer h he =>
    obtain ⟨older, younger, hq, ho, hy⟩ := hk.split he
    have hstate := (Connector.activeEntry_some he).2
    refine hk.dropWork (h ▸ .attemptEnds a) ?_ rfl
    rw [Site.updateActive, Site.setConn_conn, Site.setConn_conn, hq,
      updateFirst_append_cons _ (by simpa [noneActive] using ho) (by simp [hstate])]
    intro x hx
    rw [List.mem_append, List.mem_cons] at hx
    obtain hx | rfl | hx := hx
    · exact ho x hx
    · exact EntryState.noConfusion
    · exact hy x hx
  | retry tag e he hs => exact hk.retried he hs
  | leaveWork engine h hdrop =>
    refine hk.dropWork hdrop (Connector.activeEntry_eq_none.1 ?_) rfl
    exact h.elim (fun h => h) hk.none_of_abandoned
  | endEntry e acked status data he hw =>
    rw [Site.endEntry_conn]
    refine Connector.OneActive.drained (k := t.conn.without e.tag) ?_
    by_cases ha : e.state = .active
    · have hn : noneActive (t.conn.without e.tag).queue := hk.noneActive_without hd he ha
      refine Connector.oneActive_of_none hn ?_ hk.2.2.2
      rw [Connector.workAgrees_of_none (Connector.activeEntry_eq_none.2 hn)]
      exact Engine.free_of_not_abortable (hw ha)
    · exact hk.without_of_not_active hd he ha
  | endWork e acked status data engine he ha hdrop =>
    rw [Site.endEntry_conn]
    exact Connector.OneActive.drained (k := (t.conn.dropWork engine).without e.tag)
      (hk.dropWork hdrop (hk.noneActive_without hd he ha) rfl)

/-- A tick keeps the ACTIVE entry and the engine's work in step. -/
theorem Connector.OneActive.tick {k : Connector} (hk : k.OneActive) (reading : Option BusLines) :
    ({ k with engine := k.engine.tick reading } : Connector).OneActive := by
  obtain ⟨hc, hu, hw, hp⟩ := hk
  refine ⟨hc, hu, ?_, Engine.tick_inPlace hp reading⟩
  have ha : ({ k with engine := k.engine.tick reading } : Connector).activeEntry = k.activeEntry := rfl
  rw [← hw]
  unfold Connector.workAgrees
  rw [ha]
  cases reading with
  | none => cases k.engine <;> rfl
  | some r =>
    cases k.engine with
    | transferring a =>
      obtain ⟨_, _, _, _, h⟩ := a.tick_cases r
      simp only [Engine.tick, Option.elim, h]
      rfl
    | aborting a finishing =>
      obtain ⟨_, _, _, h⟩ := abortTick_cases a finishing r
      simp only [Engine.tick, Option.elim, h]
    | clearing purpose b =>
      cases purpose with
      | beforeTransfer a aborted => cases aborted <;> rfl
      | requested | afterStretch => rfl
    | off | idle | pulsing | hung => rfl

end Sys2Proof.Machine
end

section
/-! PROOFS. What moves leave of the tags, slots and records of a connector, and what they bring the Outbound Unit. -/

namespace Sys2Proof.Machine

/-! ### Reports to the Outbound Unit -/

/-- One report of a connector's blocks: an event, or a response that is no RESTART's OK. -/
inductive Outbound.Report : Outbound → Outbound → Prop
  | event (o : Outbound) (e : Event) : Report o (o.raise e)
  | response (o : Outbound) (r : Response) (h : r.isRestartOk = false) : Report o (o.respond r)

/-- Reports one after another. -/
abbrev Outbound.Reports : Outbound → Outbound → Prop := Relation.ReflTransGen Outbound.Report

/-- The final response of an entry is no RESTART's. -/
theorem Entry.finalResponse_isRestartOk (e : Entry) (c : ConnId) (status : Status) (data : List Byte) :
    (e.finalResponse c status data).isRestartOk = false := by
  have hcode : e.kind.code ≠ codeRestart := by cases e.kind <;> decide
  simp [Response.isRestartOk, Entry.finalResponse, hcode]

/-- The end of an entry is a report at most (R88, R89). -/
theorem Outbound.afterEnd_reports (o : Outbound) (c : ConnId) (e : Entry) (status : Status) (data : List Byte) :
    Outbound.Reports o (o.afterEnd c e status data) := by
  unfold Outbound.afterEnd
  split
  next => exact .single (.response o _ (e.finalResponse_isRestartOk c status data))
  next =>
    split
    next => exact .refl
    next => exact .single (.event o _)

/-- A sweep reports every entry (R95). -/
theorem Outbound.foldl_afterEnd_reports (q : List Entry) (c : ConnId) (status : Status) (o : Outbound) :
    Outbound.Reports o (q.foldl (fun o e => o.afterEnd c e status []) o) := by
  induction q generalizing o with
  | nil => exact .refl
  | cons e q ih => exact (o.afterEnd_reports c e status []).trans (ih _)

/-- An event raised is a report. -/
theorem Outbound.reports_of_raise {o o' : Outbound} (e : Event) (h : o' = o.raise e) : Outbound.Reports o o' := by
  rw [h]; exact .single (.event o e)

/-- A power cut with its transition reports the entries and the transition (R22). -/
theorem Site.powerCut_settle_reports {t : Site} {o : Outbound} (status : Status) (dest : ConnState) (cause : Cause)
    (counter : Fin 2) (ho : t.out = o) : Outbound.Reports o ((t.powerCut status).settle dest cause counter).out := by
  rw [Site.powerCut_settle, ← ho]
  exact .tail (Outbound.foldl_afterEnd_reports t.conn.queue t.id status t.out)
    (.event (t.conn.sweepInto t.id status t.out) (.slotState ⟨t.id, t.slot, t.conn.state, dest, cause, counter, 1⟩))

/-- A transition is one report (R47). -/
theorem Site.enter_reports {t : Site} {o : Outbound} (dest : ConnState) (cause : Cause) (ho : t.out = o) :
    Outbound.Reports o (t.enter dest cause).out := by
  rw [← ho]
  exact .single (.event t.out (.slotState ⟨t.id, t.slot, t.conn.state, dest, cause, t.conn.faultCounter, 1⟩))

/-- The end of an entry, with the drain it may complete. -/
theorem Site.endEntry_reports {t : Site} {o : Outbound} (e : Entry) (status : Status) (data : List Byte)
    (ho : t.out = o) : Outbound.Reports o (t.endEntry e status data).out := by
  rw [Site.endEntry, Site.reportEnd_eq, ← ho]
  refine (Outbound.afterEnd_reports t.out t.id e status data).trans ?_
  generalize hu : Site.free _ _ = u
  have hout : u.out = t.out.afterEnd t.id e status data := by rw [← hu]; rfl
  rw [← hout]
  obtain ⟨-, -, h⟩ | ⟨-, h⟩ := u.drainCheck_cases <;> rw [h]
  exact Site.powerCut_settle_reports _ _ _ _ rfl

/-- An attention that is due is a report. -/
theorem Site.attentionCheck_reports {t : Site} {o : Outbound} (ho : t.out = o) :
    Outbound.Reports o t.attentionCheck.out := by
  rw [← ho]
  unfold Site.attentionCheck
  split
  next => exact Outbound.reports_of_raise (.attention t.id t.slot) rfl
  next => exact .refl

/-- A review of the fault condition that takes no fault reports nothing. -/
theorem Site.reviewFault_out {u : Site} {before : Bool}
    (hq : before = false → u.conn.faultCondition = true → u.conn.config.qualifyMs ≠ 0) :
    (u.reviewFault before).out = u.out := by
  unfold Site.reviewFault
  split
  next hf => rw [if_neg (hq rfl hf)]; rfl
  all_goals rfl

/-- A review of the fault condition that takes no fault is of the same place. -/
theorem Site.reviewFault_place {u : Site} {before : Bool}
    (hq : before = false → u.conn.faultCondition = true → u.conn.config.qualifyMs ≠ 0) :
    (u.reviewFault before).place = u.place := by
  unfold Site.reviewFault
  split
  next hf => rw [if_neg (hq rfl hf)]; rfl
  all_goals rfl

/-- What a move brings the Outbound Unit. -/
theorem Site.Move.reports {t u : Site} (h : Site.Move t u) : Outbound.Reports t.out u.out := by
  cases h with
  | presence | attention | configure | unqualify | window | beginTransfer | byte | backoff | retry | leaveWork =>
    exact .refl
  | steady | arm => exact Site.attentionCheck_reports rfl
  | review oc pg inrush hi hq => rw [Site.reviewFault_out (u := t.setConn _) hq]; exact .refl
  | cut => exact Site.powerCut_settle_reports _ _ _ _ rfl
  | cutToRetry oc pg inrush qualify status cause delay hp u hu =>
    change Outbound.Reports t.out u.out
    rw [hu]
    exact Site.powerCut_settle_reports _ _ _ _ rfl
  | settle | powerUp | drain => exact Site.enter_reports _ _ rfl
  | powerGood | resume => exact .trans (Site.enter_reports _ _ rfl) (Site.attentionCheck_reports rfl)
  | start e lines hm hc he => rw [t.launch_eq e lines (kind_ne_fence_of_endsAtStart he)]; exact .refl
  | endEntry => exact Site.endEntry_reports _ _ _ rfl
  | endWork => exact Site.endEntry_reports _ _ _ rfl

/-! ### Tags and slots of entries -/

/-- What stands in an entry's record from its allocation on: its tag and its slot. -/
def Entry.label (e : Entry) : Byte × Nat := (e.tag, e.slot)

/-- The labels of a connector's entries. -/
def Connector.labels (k : Connector) : List (Byte × Nat) := k.queue.map Entry.label

theorem Connector.labels_fst (k : Connector) : k.labels.map Prod.fst = k.tags := by
  simp [Connector.labels, Connector.tags, Entry.label, Function.comp_def]

/-- A change of one entry keeps the labels. -/
theorem map_label_updateFirst (r : Entry → Bool) (f : Entry → Entry) (hf : ∀ e, (f e).label = e.label) (q : List Entry) :
    (updateFirst r f q).map Entry.label = q.map Entry.label := by
  induction q with
  | nil => rfl
  | cons e q ih => simp only [updateFirst]; split <;> simp [hf, ih]

/-- A connector with one entry changed holds the labels it held. -/
theorem labels_sublist_of_updateFirst {k k' : Connector} {r : Entry → Bool} {f : Entry → Entry}
    (hq : k'.queue = updateFirst r f k.queue) (hf : ∀ e, (f e).label = e.label) : k'.labels.Sublist k.labels := by
  rw [Connector.labels, hq, map_label_updateFirst r f hf]
  exact .refl _

/-- The end of an entry, with the drain it may complete. -/
theorem Connector.labels_without (k : Connector) (tag : Byte) : (k.without tag).drained.labels.Sublist k.labels := by
  unfold Connector.drained
  split
  next => exact List.nil_sublist _
  next => exact List.Sublist.map _ List.eraseP_sublist

/-- No move brings a connector an entry (R62, R63). -/
theorem Site.Move.labels {t u : Site} (h : Site.Move t u) : u.conn.labels.Sublist t.conn.labels := by
  cases h with
  | presence => rw [Site.presenceInput_conn]; exact .refl _
  | attention => rw [Site.attnInput_conn]; exact .refl _
  | configure | unqualify | window | settle | powerUp | drain | beginTransfer | leaveWork => exact .refl _
  | steady | arm | powerGood | resume => rw [Site.attentionCheck_conn]; exact .refl _
  | review oc pg inrush hi hq =>
    obtain ⟨_, hconn, -⟩ := Site.reviewFault_conn (u := t.setConn _) hq
    rw [hconn]; exact .refl _
  | cut => rw [Site.powerCut_settle]; exact List.nil_sublist _
  | cutToRetry oc pg inrush qualify status cause delay hp u hu =>
    rw [hu, Site.powerCut_settle]; exact List.nil_sublist _
  | start e lines hm hc he =>
    rw [t.launch_eq e lines (kind_ne_fence_of_endsAtStart he)]
    exact labels_sublist_of_updateFirst (f := fun e => { e with state := .active, acked := 0 }) rfl fun _ => rfl
  | byte a a' => exact labels_sublist_of_updateFirst (f := fun e => { e with acked := a'.completed }) rfl fun _ => rfl
  | backoff a e timer =>
    exact labels_sublist_of_updateFirst
      (f := fun e =>
        { e with
          state := .backoff, acked := 0, retriesUsed := e.retriesUsed.map fun used => used + 1, retryTimer := timer })
      rfl fun _ => rfl
  | retry =>
    exact labels_sublist_of_updateFirst (f := fun e => { e with state := .waiting, retryTimer := none }) rfl fun _ => rfl
  | endEntry e acked status data => rw [Site.endEntry_conn]; exact t.conn.labels_without _
  | endWork e acked status data engine =>
    rw [Site.endEntry_conn]
    exact (t.conn.dropWork engine).labels_without _

theorem Site.Move.tags {t u : Site} (h : Site.Move t u) : u.conn.tags.Sublist t.conn.tags := by
  rw [← Connector.labels_fst, ← Connector.labels_fst]
  exact h.labels.map _

/-! ### Records, map and place -/

/-- What no move changes but SLOT_CONFIGURE's: the record; and none takes a connector in or out of the map (R10, R170). -/
theorem Site.Move.config_and_map {t u : Site} (h : Site.Move t u) :
    (u.conn.config = t.conn.config ∨ u.conn.config.inRange = true) ∧
      (u.conn.state = .unused ↔ t.conn.state = .unused) := by
  have hpowered : t.conn.state.powered = true → t.conn.state ≠ .unused := by
    intro h hn; rw [hn] at h; cases h
  have hdrained : ∀ k : Connector, k.drained.config = k.config ∧ (k.drained.state = .unused ↔ k.state = .unused) := by
    intro k
    unfold Connector.drained
    split
    next h => exact ⟨rfl, by simp [h.1]⟩
    next => exact ⟨rfl, Iff.rfl⟩
  cases h with
  | presence => rw [Site.presenceInput_conn]; exact ⟨.inl rfl, Iff.rfl⟩
  | attention => rw [Site.attnInput_conn]; exact ⟨.inl rfl, Iff.rfl⟩
  | configure config h => exact ⟨.inr h, Iff.rfl⟩
  | unqualify | window | beginTransfer | byte | backoff | retry | leaveWork => exact ⟨.inl rfl, Iff.rfl⟩
  | steady | arm => rw [Site.attentionCheck_conn]; exact ⟨.inl rfl, Iff.rfl⟩
  | review oc pg inrush hi hq =>
    obtain ⟨_, hconn, -⟩ := Site.reviewFault_conn (u := t.setConn _) hq
    rw [hconn]; exact ⟨.inl rfl, Iff.rfl⟩
  | cut oc pg inrush qualify debounce status dest cause counter hp hd =>
    rw [Site.powerCut_settle]
    refine ⟨.inl rfl, iff_of_false ?_ (hpowered hp)⟩
    obtain ⟨rfl, -⟩ | ⟨rfl, -⟩ | ⟨rfl, -⟩ := hd <;> exact ConnState.noConfusion
  | cutToRetry oc pg inrush qualify status cause delay hp u hu =>
    rw [hu, Site.powerCut_settle]
    exact ⟨.inl rfl, iff_of_false ConnState.noConfusion (hpowered hp)⟩
  | settle debounce dest cause hp hm hdest hd =>
    refine ⟨.inl rfl, iff_of_false ?_ hm⟩
    obtain rfl | rfl := hdest <;> exact ConnState.noConfusion
  | powerUp cause h =>
    refine ⟨.inl rfl, iff_of_false ConnState.noConfusion ?_⟩
    obtain h | h := h <;> rw [h] <;> exact ConnState.noConfusion
  | powerGood h | resume h =>
    rw [Site.attentionCheck_conn]
    exact ⟨.inl rfl, iff_of_false ConnState.noConfusion (by rw [h]; exact ConnState.noConfusion)⟩
  | drain h => exact ⟨.inl rfl, iff_of_false ConnState.noConfusion (by rw [h]; exact ConnState.noConfusion)⟩
  | start e lines hm hc he =>
    rw [t.launch_eq e lines (kind_ne_fence_of_endsAtStart he)]; exact ⟨.inl rfl, Iff.rfl⟩
  | endEntry e acked status data =>
    rw [Site.endEntry_conn]
    exact ⟨.inl (hdrained _).1, (hdrained _).2⟩
  | endWork e acked status data engine =>
    rw [Site.endEntry_conn]
    exact ⟨.inl (hdrained _).1, (hdrained _).2⟩

/-- A move is of one connector and one slot (R1). -/
theorem Site.Move.place {t u : Site} (h : Site.Move t u) : u.place = t.place := by
  cases h with
  | review oc pg inrush hi hq =>
    exact Site.reviewFault_place (u := t.setConn _) hq
  | cutToRetry oc pg inrush qualify status cause delay hp u hu => rw [hu]; simp
  | presence | attention => rfl
  | steady | arm | configure | unqualify | window | cut | settle | powerUp | powerGood | resume | drain | start
  | beginTransfer | byte | backoff | retry | leaveWork | endEntry | endWork => simp

end Sys2Proof.Machine
end

section
/-! PROOFS. What the Link Interface's rules can do to it, one rule at a time, and what every rule keeps: the numbers of
the frames held, and what runs and waits in each link state. -/

namespace Sys2Proof.Machine

/-! ### The fields a rule leaves -/

@[simp] theorem Link.resendPass_eq_passed (l : Link) : l.resendPass = l.passed := by
  by_cases h : l.replay = []
  · rw [Link.resendPass, Link.passed, if_pos h, if_pos h]
  · rw [Link.resendPass, Link.passed, if_neg h, if_neg h, LinkCounters.addReplay, bump_eq_min]
    rfl

/-- A resend pass marks the frames and counts, and leaves the rest (R155). -/
theorem Link.passed_cases (l : Link) :
    ∃ counters, l.passed = { l with replay := l.replay.map fun f => { f with marked := true }, counters } := by
  by_cases h : l.replay = []
  · rw [Link.passed, if_pos h]
    refine ⟨l.counters, ?_⟩
    rw [h, List.map_nil, ← h]
  · rw [Link.passed, if_neg h]
    exact ⟨_, rfl⟩

theorem Link.enterDown_eq_wentDown (l : Link) (hostLossTimeout : Nat) :
    l.enterDown hostLossTimeout = l.wentDown hostLossTimeout := by
  rw [Link.enterDown, Link.wentDown, Link.withdrawNaks, LinkCounters.addLinkDown, bump_eq_min]
  rfl

theorem Link.removeFrames_eq_acked (l : Link) (k replayTimeout : Nat) :
    l.removeFrames k replayTimeout = l.acked k replayTimeout := by
  by_cases h : k = 0
  · rw [Link.removeFrames, Link.acked, if_pos h, if_pos h]
  · rw [Link.removeFrames, Link.acked, if_neg h, if_neg h]
    simp only [List.drop_eq_nil_iff]

/-- The frames that a transmission unmarks keep their numbers and their marks of a RESTART's OK. -/
theorem map_unmarkFirst {α : Type} (g : ReplayFrame → α) (hg : ∀ f, g { f with marked := false } = g f)
    (fs : List ReplayFrame) : (unmarkFirst fs).map g = fs.map g := by
  induction fs with
  | nil => rfl
  | cons f fs ih =>
    rw [unmarkFirst]
    split
    next => rw [List.map_cons, List.map_cons, hg]
    next => rw [List.map_cons, List.map_cons, ih]

/-- A renumbering changes the numbers alone. -/
theorem map_renumber {α : Type} (g : ReplayFrame → α) (hg : ∀ f n, g { f with number := n } = g f) (n : Seq)
    (fs : List ReplayFrame) : (renumber n fs).map g = fs.map g := by
  induction fs generalizing n with
  | nil => rfl
  | cons f fs ih => rw [renumber, List.map_cons, List.map_cons, hg, ih]

/-- The numbers a renumbering gives (R161). -/
theorem renumber_eq (n : Seq) (fs : List ReplayFrame) :
    renumber n fs = fs.zipIdx.map fun (f, i) => { f with number := n + BitVec.ofNat 6 i } := by
  induction fs generalizing n with
  | nil => rfl
  | cons f fs ih =>
    rw [renumber, ih, List.zipIdx_cons, List.map_cons, List.zipIdx_succ, List.map_map]
    congr 1
    · simp
    · refine List.map_congr_left fun p _ => ?_
      have : n + 1 + BitVec.ofNat 6 p.2 = n + BitVec.ofNat 6 (p.2 + 1) := by
        rw [BitVec.ofNat_add, BitVec.add_assoc, BitVec.add_comm 1]
        rfl
      simp only [Function.comp, this]

/-! ### Rules -/

/-- Frames held that carry a pending RESTART's OK. -/
def Link.restartOks (l : Link) : Nat := l.replay.countP fun f => f.restartOk

/-- One rule of the Link Interface, where it applies. -/
inductive Link.Rule : Link → Link → Prop
  | records (l : Link) (rx : RxState) (counters : LinkCounters) : Rule l { l with rx, counters }
  | unsynced (l : Link) (h : l.state ≠ .up) : Rule l l.unsyncedData
  | hold (l : Link) (h : l.state = .up) : Rule l (l.addNak .hold)
  | duplicate (l : Link) (h : l.state = .up) : Rule l l.duplicate
  | gap (l : Link) (h : l.state = .up) : Rule l l.gap
  | accept (l : Link) (h : l.state = .up) : Rule l l.accept
  | acked (l : Link) (k replayTimeout : Nat) (h : l.state = .up) : Rule l (l.acked k replayTimeout)
  | passed (l : Link) : Rule l l.passed
  | pause (l : Link) (h : l.state = .up) : Rule l l.pause
  | again (l : Link) (replayTimeout : Nat) (h : l.state = .up) (ht : l.replayTimer.isSome = true)
      (hc : l.replayCount + 1 < 4) :
      Rule l { { l with replayCount := l.replayCount + 1 }.passed with replayTimer := some replayTimeout }
  | down (l : Link) (count hostLossTimeout : Nat) (h : l.state = .up)
      (hc : count = l.replayCount ∨ count = l.replayCount + 1) :
      Rule l ({ l with replayCount := count }.wentDown hostLossTimeout)
  | holdEnds (l : Link) : Rule l { l.passed with holdPause := none }
  | spacingEnds (l : Link) : Rule l { l with spacing := none }
  | hostLossEnds (l : Link) : Rule l { l with hostLoss := none }
  | transmit (l : Link) : Rule l l.transmit
  | synchronise (l : Link) (replayTimeout : Nat) : Rule l (l.synchronise replayTimeout)
  | frameNew (l : Link) (payload : Message) (restartOk : Bool) (replayTimeout : Nat) (h : l.hasRoom = true) :
      Rule l (l.frameNew payload restartOk replayTimeout)

/-- Rules one after another. -/
abbrev Link.Rules : Link → Link → Prop := Relation.ReflTransGen Link.Rule

/-! ### The window of numbers (R154) -/

/-- The window is one of the numbers held and of T. -/
theorem Link.WindowAgrees.congr {l l' : Link} (h : l.WindowAgrees)
    (hn : (l'.replay.map fun f => f.number) = l.replay.map fun f => f.number) (ht : l'.next = l.next) :
    l'.WindowAgrees := by
  obtain ⟨hlen, hnum⟩ := h
  have hl : l'.replay.length = l.replay.length := by simpa using congrArg List.length hn
  refine ⟨hl ▸ hlen, fun i hi => ?_⟩
  have hi' : i < l.replay.length := hl ▸ hi
  have hget : l'.replay[i].number = l.replay[i].number := by
    have := List.getElem_of_eq hn (i := i) (by simpa using hi)
    simpa using this
  rw [hget, hl, ht]
  exact hnum i hi'

/-- The oldest frames leave. -/
theorem Link.WindowAgrees.drop {l l' : Link} (h : l.WindowAgrees) (k : Nat) (hr : l'.replay = l.replay.drop k)
    (ht : l'.next = l.next) : l'.WindowAgrees := by
  obtain ⟨hlen, hnum⟩ := h
  have hl : l'.replay.length = l.replay.length - k := by rw [hr, List.length_drop]
  refine ⟨by omega, fun i hi => ?_⟩
  have hget : l'.replay[i].number = (l.replay[k + i]'(by omega)).number := by
    have := List.getElem_of_eq hr hi
    rw [this, List.getElem_drop]
  have hsub : l'.replay.length - i = l.replay.length - (k + i) := by omega
  rw [hget, hsub, ht]
  exact hnum (k + i) (by omega)

/-- A new frame takes T, and T goes on by one. -/
theorem Link.WindowAgrees.frameNew {l : Link} (h : l.WindowAgrees) (hroom : l.hasRoom = true) (payload : Message)
    (restartOk : Bool) (replayTimeout : Nat) : (l.frameNew payload restartOk replayTimeout).WindowAgrees := by
  obtain ⟨hlen, hnum⟩ := h
  have hlt : l.replay.length < 8 := by
    simp only [Link.hasRoom, Bool.and_eq_true, decide_eq_true_eq] at hroom
    exact hroom.1.2
  have hl : (l.frameNew payload restartOk replayTimeout).replay.length = l.replay.length + 1 := by simp [Link.frameNew]
  refine ⟨by omega, fun i hi => ?_⟩
  change i < (l.replay ++ [_]).length at hi
  change (l.replay ++ [_])[i].number + BitVec.ofNat 6 ((l.replay ++ [_]).length - i) = l.next + 1
  by_cases hlast : i < l.replay.length
  · rw [List.getElem_append_left hlast, ← hnum i hlast, List.length_append, List.length_singleton,
      Nat.sub_add_comm hlast.le,
      BitVec.ofNat_add, BitVec.add_assoc]
    rfl
  · rw [List.length_append, List.length_singleton] at hi
    have hi : i = l.replay.length := by omega
    subst hi
    simp

/-- A SYNC numbers the frames from 0, and T follows them. -/
theorem Link.WindowAgrees.renumber {l l' : Link} (h : l.WindowAgrees)
    (hr : (l'.replay.map fun f => f.number) = (renumber 0 l.replay).map fun f => f.number)
    (ht : l'.next = BitVec.ofNat 6 l.replay.length) : l'.WindowAgrees := by
  rw [renumber_eq, List.map_map] at hr
  have hl : l'.replay.length = l.replay.length := by simpa using congrArg List.length hr
  refine ⟨hl ▸ h.1, fun i hi => ?_⟩
  have hget : l'.replay[i].number = BitVec.ofNat 6 i := by
    have := List.getElem_of_eq hr (i := i) (by simpa using hi)
    simpa using this
  rw [hget, ht, hl, ← BitVec.ofNat_add]
  congr 1
  omega

/-! ### What a rule keeps -/

theorem Link.transmit_next (l : Link) : l.transmit.next = l.next := by
  unfold Link.transmit
  split
  next => rfl
  next =>
    split
    next => rfl
    next => split <;> (try split) <;> (try split) <;> rfl

/-- What the transmitter leaves of the frames held: all but a mark. -/
theorem Link.map_transmit {α : Type} (g : ReplayFrame → α) (hg : ∀ f, g { f with marked := false } = g f) (l : Link) :
    l.transmit.replay.map g = l.replay.map g := by
  unfold Link.transmit
  split
  next => rfl
  next =>
    split
    next => rfl
    next =>
      split
      next => rfl
      next =>
        split
        next =>
          split
          next => exact map_unmarkFirst g hg _
          next => rfl
        next => rfl

/-- The frames a SYNC leaves: those held, renumbered. -/
theorem Link.map_synchronise {α : Type} (g : ReplayFrame → α) (hg : ∀ f, g { f with marked := true } = g f) (l : Link)
    (replayTimeout : Nat) : (l.synchronise replayTimeout).replay.map g = (renumber 0 l.replay).map g := by
  rw [Link.synchronise, Link.resendPass_eq_passed]
  obtain ⟨_, h⟩ := Link.passed_cases _
  rw [h]
  simp [List.map_map, Function.comp_def, hg]

/-- A pass leaves of the frames held all but their marks. -/
theorem Link.map_passed {α : Type} (g : ReplayFrame → α) (hg : ∀ f, g { f with marked := true } = g f) (l : Link) :
    l.passed.replay.map g = l.replay.map g := by
  obtain ⟨_, h⟩ := l.passed_cases
  rw [h]
  simp [List.map_map, Function.comp_def, hg]

/-- Every rule keeps the window (R154). -/
theorem Link.Rule.window {l l' : Link} (h : Link.Rule l l') (hw : l.WindowAgrees) : l'.WindowAgrees := by
  cases h with
  | records | duplicate | accept | pause | down | spacingEnds | hostLossEnds => exact hw.congr rfl rfl
  | unsynced => exact hw.congr (by rw [Link.unsyncedData_eq]; split <;> rfl) (by rw [Link.unsyncedData_eq]; split <;> rfl)
  | hold => rw [Link.addNak_eq_nakking]; exact hw.congr rfl rfl
  | gap => exact hw.congr (by rw [Link.gap_eq]; simp only; split <;> rfl) (by rw [Link.gap_eq]; simp only; split <;> rfl)
  | acked k =>
    unfold Link.acked
    split
    next => exact hw
    next => exact hw.drop k rfl rfl
  | passed | holdEnds =>
    exact hw.congr (l.map_passed _ fun _ => rfl) (by obtain ⟨_, h⟩ := l.passed_cases; rw [h])
  | again =>
    obtain ⟨_, h⟩ := Link.passed_cases { l with replayCount := l.replayCount + 1 }
    rw [h]
    exact hw.congr (by simp [Function.comp_def]) rfl
  | transmit => exact hw.congr (l.map_transmit _ fun _ => rfl) l.transmit_next
  | synchronise replayTimeout =>
    refine hw.renumber (l.map_synchronise _ (fun _ => rfl) replayTimeout) ?_
    rw [Link.synchronise, Link.resendPass_eq_passed]
    obtain ⟨_, h⟩ := Link.passed_cases _
    rw [h]
  | frameNew payload restartOk replayTimeout hroom => exact hw.frameNew hroom payload restartOk replayTimeout

end Sys2Proof.Machine
end

section
/-! PROOFS. What runs and waits in each link state, under every rule of the Link Interface. -/

namespace Sys2Proof.Machine

/-! ### NAKs that wait -/

/-- Pending NAKs of distinct causes, UNSYNCED exactly outside UP (R139, R146). -/
abbrev naksAgree (state : LinkState) (naks : List NakCause) : Prop :=
  naks.Nodup ∧ ∀ cause ∈ naks, cause = .unsynced ↔ state ≠ .up

theorem naksAgree.add {state : LinkState} {naks : List NakCause} (h : naksAgree state naks) {cause : NakCause}
    (hc : cause = .unsynced ↔ state ≠ .up) : naksAgree state (if cause ∈ naks then naks else naks ++ [cause]) := by
  split
  next => exact h
  next hn =>
    refine ⟨List.nodup_append.2 ⟨h.1, List.nodup_singleton _, ?_⟩, ?_⟩
    · intro a ha b hb hab
      rw [List.mem_singleton.1 hb] at hab
      exact hn (hab ▸ ha)
    · intro c hm
      rcases List.mem_append.1 hm with hm | hm
      · exact h.2 c hm
      · rw [List.mem_singleton.1 hm]; exact hc

/-- In UP no NAK(UNSYNCED) waits, so none is left when the others are withdrawn (R146). -/
theorem naksAgree.withdraw {naks : List NakCause} (h : naksAgree .up naks) :
    (naks.filter fun cause => cause == .unsynced) = [] := by
  rw [List.filter_eq_nil_iff]
  intro c hc hu
  exact (h.2 c hc).1 (by simpa using hu) rfl

/-! ### What a rule keeps -/

/-- A link whose timers, counts, flags and NAKs are those of another (R139). -/
theorem Link.Tidy.congr {l l' : Link} (h : l.Tidy) (hs : l'.state = l.state) (he : l'.replay = [] ↔ l.replay = [])
    (hr : l'.replayTimer.isSome = l.replayTimer.isSome) (hc : l'.replayCount = l.replayCount)
    (hp : l'.holdPause.isSome = true → l'.state = .up) (hh : l'.hostLoss.isSome = true → l.hostLoss.isSome = true)
    (hsp : l'.spacing.isSome = true → l'.state ≠ .up) (ha : l'.ackPending = true → l'.state = .up)
    (hg : l'.gapNakSent = true → l'.state = .up) (hn : naksAgree l'.state l'.naks) : l'.Tidy := by
  obtain ⟨htimer, hle, hlt, -, hloss, -, -, -, -, -⟩ := h
  refine ⟨?_, hc ▸ hle, ?_, hp, fun hx => hs ▸ hloss (hh hx), hsp, ha, hg, hn.1, hn.2⟩
  · rw [hr, hs, htimer, Ne, Ne, he]
  · rw [hs, hc]; exact hlt

section
variable {l : Link} (h : l.Tidy)
include h

theorem Link.Tidy.naks : naksAgree l.state l.naks := ⟨h.2.2.2.2.2.2.2.2.1, h.2.2.2.2.2.2.2.2.2⟩

theorem Link.Tidy.holdPause : l.holdPause.isSome = true → l.state = .up := h.2.2.2.1

theorem Link.Tidy.spacing : l.spacing.isSome = true → l.state ≠ .up := h.2.2.2.2.2.1

theorem Link.Tidy.ackPending : l.ackPending = true → l.state = .up := h.2.2.2.2.2.2.1

theorem Link.Tidy.gapNakSent : l.gapNakSent = true → l.state = .up := h.2.2.2.2.2.2.2.1

/-- A link that keeps its timers and counts, with other flags and NAKs of its state. -/
theorem Link.Tidy.flagged (rx : RxState) (expected : Seq) (ackPending gapNakSent : Bool) (naks : List NakCause)
    (sending : Option (List Byte)) (syncAck : Option SyncAck) (counters : LinkCounters)
    (ha : ackPending = true → l.state = .up) (hg : gapNakSent = true → l.state = .up)
    (hn : naksAgree l.state naks) :
    Link.Tidy { l with rx, expected, ackPending, gapNakSent, naks, sending, syncAck, counters } :=
  h.congr rfl Iff.rfl rfl rfl h.holdPause id h.spacing ha hg hn

theorem Link.Tidy.nakking {cause : NakCause} (hc : cause = .unsynced ↔ l.state ≠ .up) (counters : LinkCounters)
    (gapNakSent : Bool) (hg : gapNakSent = true → l.state = .up) :
    Link.Tidy { l.nakking cause with counters, gapNakSent } :=
  h.flagged l.rx l.expected l.ackPending gapNakSent _ l.sending l.syncAck counters h.ackPending hg (h.naks.add hc)

theorem Link.Tidy.withCounters (counters : LinkCounters) : Link.Tidy { l with counters } :=
  h.flagged l.rx l.expected l.ackPending l.gapNakSent l.naks l.sending l.syncAck counters h.ackPending h.gapNakSent h.naks

theorem Link.Tidy.passed : l.passed.Tidy := by
  obtain ⟨counters, hp⟩ := l.passed_cases
  rw [hp]
  exact h.congr rfl (by simp) rfl rfl h.holdPause id h.spacing h.ackPending h.gapNakSent h.naks

/-- A DATA frame outside UP (R147). -/
theorem Link.Tidy.unsyncedData (hs : l.state ≠ .up) : l.unsyncedData.Tidy := by
  have herred : l.erred.Tidy := h.withCounters _
  rw [Link.unsyncedData_eq]
  split
  next =>
    exact herred.congr rfl Iff.rfl rfl rfl h.holdPause id (fun _ => hs) h.ackPending h.gapNakSent
      (h.naks.add (iff_of_true rfl hs))
  next => exact herred

/-- A gap (R151). -/
theorem Link.Tidy.gap (hs : l.state = .up) : l.gap.Tidy := by
  have hcause : NakCause.gap = .unsynced ↔ l.state ≠ .up := iff_of_false (fun h => nomatch h) (not_not.2 hs)
  rw [Link.gap_eq]
  simp only
  split
  next => exact h.withCounters _
  next => exact h.nakking hcause _ true fun _ => hs

/-- Frames acknowledged (R156). -/
theorem Link.Tidy.acked (hs : l.state = .up) (k replayTimeout : Nat) : (l.acked k replayTimeout).Tidy := by
  unfold Link.acked
  split
  next => exact h
  next =>
    obtain ⟨-, -, -, hpause, hloss, hspace, hack, hgap, hnodup, hcause⟩ := h
    refine ⟨?_, Nat.zero_le _, fun _ => Nat.zero_lt_succ 3, hpause, hloss, hspace, hack, hgap, hnodup, hcause⟩
    by_cases hk : l.replay.length ≤ k
    · simp [hk]
    · simp [hk, hs]

/-- The replay timer restarted below the limit (R160). -/
theorem Link.Tidy.again (hs : l.state = .up) (ht : l.replayTimer.isSome = true) (hc : l.replayCount + 1 < 4)
    (replayTimeout : Nat) :
    Link.Tidy { { l with replayCount := l.replayCount + 1 }.passed with replayTimer := some replayTimeout } := by
  obtain ⟨htimer, -, -, hpause, hloss, hspace, hack, hgap, hnodup, hcause⟩ := h
  obtain ⟨counters, hp⟩ := Link.passed_cases { l with replayCount := l.replayCount + 1 }
  rw [hp]
  refine ⟨?_, Nat.le_of_lt hc, fun _ => hc, hpause, hloss, hspace, hack, hgap, hnodup, hcause⟩
  simpa [hs] using (htimer.1 ht).2

/-- The link enters DOWN (R146, R163). -/
theorem Link.Tidy.down (hs : l.state = .up) {count : Nat} (hc : count ≤ l.replayCount + 1) (hostLossTimeout : Nat) :
    ({ l with replayCount := count }.wentDown hostLossTimeout).Tidy := by
  have hnaks : (l.naks.filter fun cause => cause == .unsynced) = [] := naksAgree.withdraw (hs ▸ h.naks)
  obtain ⟨-, -, hlt, -, -, hspace, -, -, -, -⟩ := h
  have hup := hlt hs
  refine ⟨?_, ?_, ?_, ?_, fun _ => rfl, ?_, ?_, ?_, ?_, ?_⟩ <;> simp [Link.wentDown, hnaks]
  omega

omit h in
/-- A SYNC brings UP with nothing waiting (R161). -/
theorem Link.tidy_synchronise (l : Link) (replayTimeout : Nat) : (l.synchronise replayTimeout).Tidy := by
  rw [Link.synchronise, Link.resendPass_eq_passed]
  refine Link.Tidy.passed ⟨?_, Nat.zero_le _, ?_, ?_, ?_, ?_, ?_, ?_, ?_, ?_⟩ <;> simp
  cases hr : l.replay <;> simp [renumber]

/-- A new frame starts the timer of an empty buffer (R154). -/
theorem Link.Tidy.frameNew (hroom : l.hasRoom = true) (payload : Message) (restartOk : Bool) (replayTimeout : Nat) :
    (l.frameNew payload restartOk replayTimeout).Tidy := by
  obtain ⟨htimer, hle, hlt, hpause, hloss, hspace, hack, hgap, hnodup, hcause⟩ := h
  have hs : l.state = .up := by
    simp only [Link.hasRoom, Bool.and_eq_true, beq_iff_eq] at hroom
    exact hroom.1.1
  refine ⟨?_, hle, hlt, hpause, hloss, hspace, hack, hgap, hnodup, hcause⟩
  by_cases he : l.replay = []
  · simp [Link.frameNew, he, hs]
  · simp [Link.frameNew, he, hs, htimer]

/-- The transmitter takes what waits (R153). -/
theorem Link.Tidy.transmit : l.transmit.Tidy := by
  unfold Link.transmit
  split
  next =>
    exact h.flagged l.rx l.expected l.ackPending l.gapNakSent l.naks _ none l.counters h.ackPending h.gapNakSent h.naks
  next =>
    split
    next cause rest hq =>
      have hn := h.naks
      rw [hq] at hn
      exact h.flagged l.rx l.expected false l.gapNakSent rest _ l.syncAck l.counters (fun hx => nomatch hx) h.gapNakSent
        ⟨(List.nodup_cons.1 hn.1).2, fun c hc => hn.2 c (List.mem_cons_of_mem _ hc)⟩
    next =>
      split
      next =>
        exact h.flagged l.rx l.expected false l.gapNakSent l.naks _ l.syncAck l.counters (fun hx => nomatch hx) h.gapNakSent
          h.naks
      next =>
        split
        next =>
          split
          next =>
            have hempty : unmarkFirst l.replay = [] ↔ l.replay = [] := by
              rw [← List.map_eq_nil_iff (f := fun f => f.number), map_unmarkFirst _ fun _ => rfl, List.map_eq_nil_iff]
            exact h.congr rfl hempty rfl rfl h.holdPause id h.spacing h.ackPending h.gapNakSent h.naks
          next =>
            exact h.flagged l.rx l.expected l.ackPending l.gapNakSent l.naks _ l.syncAck l.counters h.ackPending
              h.gapNakSent h.naks
        next =>
          exact h.flagged l.rx l.expected l.ackPending l.gapNakSent l.naks _ l.syncAck l.counters h.ackPending h.gapNakSent
            h.naks

end

/-- Every rule keeps what runs and waits in each link state (R139, R146, R147, R151, R158, R160, R161, R163). -/
theorem Link.Rule.tidy {l l' : Link} (h : Link.Rule l l') (ht : l.Tidy) : l'.Tidy := by
  cases h with
  | records rx counters =>
    exact ht.flagged rx l.expected l.ackPending l.gapNakSent l.naks l.sending l.syncAck counters ht.ackPending
      ht.gapNakSent ht.naks
  | unsynced hs => exact ht.unsyncedData hs
  | hold hs =>
    rw [Link.addNak_eq_nakking]
    exact ht.nakking (cause := .hold) (iff_of_false (fun h => nomatch h) (not_not.2 hs)) l.counters l.gapNakSent
      ht.gapNakSent
  | duplicate hs =>
    rw [Link.duplicate_eq]
    exact ht.flagged l.rx l.expected true l.gapNakSent l.naks l.sending l.syncAck _ (fun _ => hs) ht.gapNakSent ht.naks
  | gap hs => exact ht.gap hs
  | accept hs =>
    have hnone : l.withdrawNaks.naks = [] := naksAgree.withdraw (hs ▸ ht.naks)
    refine ht.flagged l.rx (l.expected + 1) true false _ l.sending l.syncAck l.counters (fun _ => hs)
      (fun hx => nomatch hx) ?_
    rw [hnone]
    exact ⟨List.nodup_nil, fun c hc => nomatch hc⟩
  | acked k replayTimeout hs => exact ht.acked hs k replayTimeout
  | passed => exact ht.passed
  | pause hs => exact ht.congr rfl Iff.rfl rfl rfl (fun _ => hs) id ht.spacing ht.ackPending ht.gapNakSent ht.naks
  | again replayTimeout hs htimer hc => exact ht.again hs htimer hc replayTimeout
  | down count hostLossTimeout hs hc => exact ht.down hs (by omega) hostLossTimeout
  | holdEnds =>
    have hp := ht.passed
    exact hp.congr rfl Iff.rfl rfl rfl (fun hx => nomatch hx) id hp.spacing hp.ackPending hp.gapNakSent hp.naks
  | spacingEnds =>
    exact ht.congr rfl Iff.rfl rfl rfl ht.holdPause id (fun hx => nomatch hx) ht.ackPending ht.gapNakSent ht.naks
  | hostLossEnds =>
    exact ht.congr rfl Iff.rfl rfl rfl ht.holdPause (fun hx => nomatch hx) ht.spacing ht.ackPending ht.gapNakSent ht.naks
  | transmit => exact ht.transmit
  | synchronise replayTimeout => exact l.tidy_synchronise replayTimeout
  | frameNew payload restartOk replayTimeout hroom => exact ht.frameNew hroom payload restartOk replayTimeout

/-- A device reset leaves the link with nothing that runs or waits (R178). -/
theorem Link.Tidy.beginReset {l : Link} (h : l.Tidy) : l.beginReset.Tidy := by
  obtain ⟨-, hle, hlt, -, -, -, -, hgap, -, -⟩ := h
  refine ⟨?_, hle, hlt, ?_, ?_, ?_, ?_, hgap, ?_, ?_⟩ <;> simp [Link.beginReset]

/-! ### Frames that carry a RESTART's OK -/

/-- The count is one of the marks held. -/
theorem Link.restartOks_congr {l l' : Link}
    (h : (l'.replay.map fun f => f.restartOk) = l.replay.map fun f => f.restartOk) : l'.restartOks = l.restartOks := by
  have hcount : ∀ fs : List ReplayFrame,
      (fs.countP fun f => f.restartOk) = (fs.map fun f => f.restartOk).countP id := by
    intro fs; rw [List.countP_map]; rfl
  rw [Link.restartOks, Link.restartOks, hcount, hcount, h]

end Sys2Proof.Machine
end

section
/-! PROOFS. Actions of all connectors one after another: the consequences of a new slot map, and the host-loss
action. -/

namespace Sys2Proof.Machine

/-! ### One action on each connector -/

/-- Connectors that read alike are alike. -/
theorem State.conns_ext {v w : Vector Connector 8} (h : ∀ c : ConnId, v[c] = w[c]) : v = w :=
  Vector.ext fun i hi => h ⟨i, hi⟩

/-- A connector reads as replaced, the others as they were. -/
theorem State.withConn_getElem (s : State) (c d : ConnId) (k : Connector) :
    (s.withConn c k).conns[d] = if d = c then k else s.conns[d] := by
  by_cases h : d = c
  · subst h; simp
  · have hv : (c : Nat) ≠ d := fun e => h (Fin.ext e.symm)
    rw [if_neg h]
    simp [State.withConn, Vector.getElem_set_ne _ _ hv]

/-- Actions of some connectors one after another, each of which replaces its connector and brings the Outbound Unit
something, by what they leave: `conn` gives each connector afterwards and `out` what it brings. -/
theorem State.foldl_connectors {cs : List ConnId} (hcs : cs.Nodup) (act : State → ConnId → State)
    (conn : ConnId → Connector) (out : ConnId → Outbound → Outbound) (s : State)
    (hact : ∀ (u : State) (c : ConnId), c ∈ cs → u.slotMap = s.slotMap → u.conns[c] = s.conns[c] →
      act u c = (u.withConn c (conn c)).withOut (out c u.out)) :
    cs.foldl act s =
      { s with
        conns := Vector.ofFn fun c => if c ∈ cs then conn c else s.conns[c]
        out := cs.foldl (fun o c => out c o) s.out } := by
  induction cs generalizing s with
  | nil =>
    have : (Vector.ofFn fun c : ConnId => if c ∈ ([] : List ConnId) then conn c else s.conns[c]) = s.conns :=
      State.conns_ext fun c => by simp
    rw [this]
    rfl
  | cons c cs ih =>
    obtain ⟨hc, hcs⟩ := List.nodup_cons.1 hcs
    have hfirst := hact s c List.mem_cons_self rfl rfl
    have hread : ∀ d : ConnId, (act s c).conns[d] = if d = c then conn c else s.conns[d] := by
      intro d
      rw [hfirst]
      exact s.withConn_getElem c d (conn c)
    rw [List.foldl_cons, ih hcs]
    · have hconns :
          (Vector.ofFn fun d : ConnId => if d ∈ cs then conn d else (act s c).conns[d]) =
            Vector.ofFn fun d : ConnId => if d ∈ c :: cs then conn d else s.conns[d] := by
        refine State.conns_ext fun d => ?_
        simp only [Fin.getElem_fin, Vector.getElem_ofFn, List.mem_cons]
        have := hread d
        simp only [Fin.getElem_fin] at this
        rw [this]
        by_cases hd : d = c
        · subst hd; simp [hc]
        · simp [hd]
      rw [hconns, hfirst]
      rfl
    · intro u d hd hmap hconn
      refine hact u d (List.mem_cons_of_mem _ hd) (by rw [hmap, hfirst]; rfl) ?_
      have hne : d ≠ c := fun h => hc (h ▸ hd)
      rw [hconn, hread, if_neg hne]

theorem allConns_nodup : allConns.Nodup := by decide

/-- The same for all connectors. -/
theorem State.foldl_allConns (act : State → ConnId → State) (conn : ConnId → Connector)
    (out : ConnId → Outbound → Outbound) (s : State)
    (hact : ∀ (u : State) (c : ConnId), u.slotMap = s.slotMap → u.conns[c] = s.conns[c] →
      act u c = (u.withConn c (conn c)).withOut (out c u.out)) :
    allConns.foldl act s =
      { s with conns := Vector.ofFn conn, out := allConns.foldl (fun o c => out c o) s.out } := by
  rw [State.foldl_connectors allConns_nodup act conn out s fun u c _ => hact u c]
  simp only [mem_allConns, if_true]

/-! ### A new slot map (R15) -/

/-- What a new table does to one connector (R15). -/
def Connector.remapped (k : Connector) (before after : Nat) : Connector :=
  if before ≠ 0 ∧ after = 0 then k.leftMap else if before = 0 ∧ after ≠ 0 then k.enteredMap else k

/-- What a new table brings the Outbound Unit from one connector (R15). -/
def Outbound.remapped (o : Outbound) (c : ConnId) (k : Connector) (before after : Nat) : Outbound :=
  if before ≠ 0 ∧ after = 0 then o.raise (.slotState ⟨c, before, k.state, .unused, .unmapped, 0, 1⟩)
  else if before = 0 ∧ after ≠ 0 then o.raise (.slotState ⟨c, after, k.state, .empty, .mapped, 0, 1⟩)
  else o

/-- The consequence of a new table for one connector (R15). -/
theorem remapOne_eq (old : Vector (Option ConnId) 8) (s : State) (c : ConnId) :
    remapOne old s c =
      (s.withConn c (s.conns[c].remapped (slotIn old c) (s.slotOf c))).withOut
        (s.out.remapped c s.conns[c] (slotIn old c) (s.slotOf c)) := by
  unfold remapOne Connector.remapped Outbound.remapped
  by_cases h1 : slotIn old c ≠ 0 ∧ s.slotOf c = 0
  · simp only [if_pos h1]
    rfl
  · by_cases h2 : slotIn old c = 0 ∧ s.slotOf c ≠ 0
    · simp only [if_neg h1, if_pos h2]
      rfl
    · simp only [if_neg h1, if_neg h2, State.withConn_self]
      rfl

/-- The table is replaced, and each connector follows (R15). -/
theorem State.remap_eq (s : State) (table : Vector (Option ConnId) 8) :
    s.remap table =
      { s with
        slotMap := table
        conns := Vector.ofFn fun c => s.conns[c].remapped (s.slotOf c) (slotIn table c)
        out := allConns.foldl (fun o c => o.remapped c s.conns[c] (s.slotOf c) (slotIn table c)) s.out } := by
  rw [State.remap, State.foldl_allConns (remapOne s.slotMap)
    (fun c => s.conns[c].remapped (s.slotOf c) (slotIn table c))
    (fun c o => o.remapped c s.conns[c] (s.slotOf c) (slotIn table c))]
  intro u c hmap hconn
  have hslot : u.slotOf c = slotIn table c := congrArg (slotIn · c) hmap
  rw [remapOne_eq, hslot, hconn]
  rfl

/-! ### The host-loss action (R44) -/

/-- What the host-loss action does to one connector (R44). -/
def Connector.lostHost (k : Connector) : Connector :=
  if k.state.powered then k.cut .off 0 else if k.state = .cooldown then k.settled .off 0 else k

/-- POWER_OFF_ALL acts on the connectors with power on or in COOLDOWN (R44). -/
theorem ConnState.blocksMap_eq (st : ConnState) : st.blocksMap = (st.powered || st == .cooldown) := by
  cases st <;> decide

/-- A bit of a set of connectors. -/
theorem connBit_getLsbD (c d : ConnId) : (1#8 <<< c.val).getLsbD d.val = decide (d = c) := by
  revert c d; decide

/-- The set of connectors moved to OFF grows by each that is moved (R44). -/
theorem foldl_powerOffOne (cs : List ConnId) (acc : State × ConnSet) :
    cs.foldl powerOffOne acc =
      (cs.foldl (fun u c => if u.conns[c].state.blocksMap then u.onSite c fun t => t.powerOffNow .hostLoss else u) acc.1,
        (cs.foldl powerOffOne acc).2) := by
  induction cs generalizing acc with
  | nil => rfl
  | cons c cs ih =>
    rw [List.foldl_cons, ih]
    refine Prod.ext ?_ rfl
    simp only [List.foldl_cons]
    congr 1
    unfold powerOffOne
    split <;> rfl

/-- What the host-loss action brings the Outbound Unit from one connector (R44). -/
def State.lostHostInto (s : State) (c : ConnId) (o : Outbound) : Outbound :=
  if s.conns[c].state.blocksMap then
    (if s.conns[c].state.powered then s.conns[c].sweepInto c .poweredOff o else o).raise (s.moveEvent c .off .hostLoss 0)
  else o

/-- The host-loss action on one connector (R44). -/
theorem State.powerOffNow_lostHost {s u : State} {c : ConnId} (hmap : u.slotMap = s.slotMap)
    (hconn : u.conns[c] = s.conns[c]) :
    (if u.conns[c].state.blocksMap then u.onSite c fun t => t.powerOffNow .hostLoss else u) =
      (u.withConn c s.conns[c].lostHost).withOut (s.lostHostInto c u.out) := by
  have hevent : u.moveEvent c .off .hostLoss 0 = s.moveEvent c .off .hostLoss 0 := by
    rw [State.moveEvent, State.moveEvent, hconn, State.slotOf, State.slotOf, hmap]
  unfold Connector.lostHost State.lostHostInto
  rw [hconn]
  by_cases hp : s.conns[c].state.powered = true
  · have hb : s.conns[c].state.blocksMap = true := by rw [ConnState.blocksMap_eq, hp]; rfl
    rw [if_pos hb, if_pos hp, if_pos hb, if_pos hp, State.onSite_powerOffNow_of_powered .hostLoss (hconn ▸ hp),
      State.cutTo, hevent, hconn]
  · by_cases hc : s.conns[c].state = .cooldown
    · have hb : s.conns[c].state.blocksMap = true := by rw [hc]; rfl
      rw [if_pos hb, if_neg hp, if_pos hc, if_pos hb, if_neg hp,
        State.onSite_powerOffNow_of_cooldown .hostLoss (hconn ▸ hc),
        State.moved, hevent, hconn]
    · have hb : ¬s.conns[c].state.blocksMap = true := by
        rw [ConnState.blocksMap_eq, Bool.or_eq_true, not_or]
        exact ⟨hp, fun h => hc (beq_iff_eq.1 h)⟩
      rw [if_neg hb, if_neg hp, if_neg hc, if_neg hb, ← hconn, State.withConn_self]
      rfl

/-- Every connector with power on or in COOLDOWN goes to OFF, in ascending order (R44). -/
theorem State.powerOffAll_fst (s : State) :
    s.powerOffAll.1 =
      { s with
        conns := Vector.ofFn fun c => s.conns[c].lostHost
        out := allConns.foldl (fun o c => s.lostHostInto c o) s.out } := by
  have hfold := State.foldl_allConns
    (fun u c => if u.conns[c].state.blocksMap then u.onSite c fun t => t.powerOffNow .hostLoss else u)
    (fun c => s.conns[c].lostHost) s.lostHostInto s fun u c => State.powerOffNow_lostHost
  rw [State.powerOffAll, foldl_powerOffOne]
  dsimp only
  rw [hfold]

/-- The set is that of the connectors moved to OFF (R44). -/
theorem foldl_powerOffOne_snd {s : State} {cs : List ConnId} (hcs : cs.Nodup) (acc : State × ConnSet)
    (hacc : ∀ c ∈ cs, acc.1.conns[c] = s.conns[c]) (d : ConnId) :
    (cs.foldl powerOffOne acc).2.getLsbD d.val =
      (acc.2.getLsbD d.val || (decide (d ∈ cs) && s.conns[d].state.blocksMap)) := by
  induction cs generalizing acc with
  | nil => simp
  | cons c cs ih =>
    obtain ⟨hc, hcs⟩ := List.nodup_cons.1 hcs
    have hrest : ∀ e ∈ cs, (powerOffOne acc c).1.conns[e] = s.conns[e] := by
      intro e he
      rw [← hacc e (List.mem_cons_of_mem _ he), powerOffOne]
      split
      next => exact State.onSite_conns_ne _ _ fun h => hc (h ▸ he)
      next => rfl
    have hset : (powerOffOne acc c).2.getLsbD d.val =
        (acc.2.getLsbD d.val || (decide (d = c) && s.conns[c].state.blocksMap)) := by
      rw [powerOffOne, hacc c List.mem_cons_self]
      by_cases hb : s.conns[c].state.blocksMap = true
      · rw [if_pos hb, BitVec.getLsbD_or, connBit_getLsbD, hb, Bool.and_true]
      · rw [if_neg hb, eq_false_of_ne_true hb, Bool.and_false, Bool.or_false]
    rw [List.foldl_cons, ih hcs _ hrest, hset]
    by_cases hd : d = c
    · subst hd; simp [hc]
    · simp [hd]

theorem State.powerOffAll_snd (s : State) (d : ConnId) :
    s.powerOffAll.2.getLsbD d.val = s.conns[d].state.blocksMap := by
  rw [State.powerOffAll, foldl_powerOffOne_snd allConns_nodup _ (fun _ _ => rfl)]
  simp [mem_allConns]

end Sys2Proof.Machine
end

section
/-! PROOFS. Admission: what a request command can come to, and the bus-class requests by their fields. -/

namespace Sys2Proof.Machine

/-! ### One connector's blocks on a part with the connector replaced -/

/-- The site of a connector that was just replaced, with the Outbound Unit. -/
theorem State.site_withConn_withOut (s : State) (c : ConnId) (k : Connector) (o : Outbound) :
    ((s.withConn c k).withOut o).site c = ⟨c, s.slotOf c, k, o⟩ := by
  have h : ((s.withConn c k).withOut o).conns[c] = k := s.withConn_getElem_self c k
  rw [State.site, h]
  rfl

/-- An action on a connector that was just replaced, with the Outbound Unit. -/
theorem State.onSite_withConn_withOut (s : State) (c : ConnId) (k : Connector) (o : Outbound) (f : Site → Site) :
    ((s.withConn c k).withOut o).onSite c f = s.putSite c (f ⟨c, s.slotOf c, k, o⟩) := by
  rw [State.onSite_eq, State.site_withConn_withOut, State.putSite]
  simp [State.withConn, State.withOut]

/-- A response after an action of a connector's blocks, with the head message taken. -/
theorem State.taken_onSite_respond (s : State) (c : ConnId) (f : Site → Site) (r : Site → Response) :
    (s.taken.onSite c fun t => (f t).respond (r t)) = (s.onSite c f).taken.respond (r (s.site c)) := rfl

/-! ### Checks 2 to 4 -/

/-- The checks common to all requests pass (R53). -/
theorem State.commonRefusal_eq_none {s : State} {tag : Byte} :
    s.commonRefusal tag = none ↔ tag.toNat < 32 ∧ s.restartPending = false ∧ tag ∉ s.tags := by
  unfold State.commonRefusal
  by_cases h1 : 32 ≤ tag.toNat
  · rw [if_pos h1]
    exact iff_of_false nofun fun h => absurd h.1 (Nat.not_lt.2 h1)
  · rw [if_neg h1]
    by_cases h2 : s.restartPending = true
    · rw [if_pos h2]
      exact iff_of_false nofun fun h => by simp [h2] at h
    · rw [if_neg h2]
      by_cases h3 : tag ∈ s.tags
      · rw [if_pos h3]
        exact iff_of_false nofun fun h => h.2.2 h3
      · rw [if_neg h3]
        exact iff_of_true rfl ⟨Nat.not_le.1 h1, by simpa using h2, h3⟩

/-- No common check refuses with OK (R53). -/
theorem State.commonRefusal_ne_ok {s : State} {tag : Byte} {status : Status} (h : s.commonRefusal tag = some status) :
    status ≠ .ok := by
  unfold State.commonRefusal at h
  rintro rfl
  split at h
  next => cases h
  next => split at h <;> (try split at h) <;> cases h

/-- What `Admits` says of the checks common to all requests. -/
theorem State.Admits.commonRefusal {s : State} {tag : Byte} (h : s.Admits tag) : s.commonRefusal tag = none :=
  State.commonRefusal_eq_none.2 h.2

/-! ### What a request command can come to (R51, R53) -/

section
variable {α : Type} (s : State) (accepts : Message → Bool)

/-- A request that names no slot finds no message of its own, is refused, or is admitted. -/
theorem State.admitPart_cases (parse : Message → Option α) (inRange : α → Bool) (act : State → Byte → α → State) :
    s.admitPart accepts parse inRange act = s ∨
      ∃ m rest, s.admissionQueue = m :: rest ∧ accepts m = true ∧
        ((∃ status, status ≠ .ok ∧
            s.admitPart accepts parse inRange act = s.answered (codeOf m) (tagOf m) status .empty) ∨
          ∃ fields, parse m = some fields ∧ inRange fields = true ∧ s.commonRefusal (tagOf m) = none ∧
            s.admitPart accepts parse inRange act = act s.taken (tagOf m) fields) := by
  cases hq : s.admissionQueue with
  | nil => exact .inl (State.takeMessage_other s _ _ fun m rest h => by rw [hq] at h; cases h)
  | cons m rest =>
    by_cases ha : accepts m = true
    · refine .inr ⟨m, rest, rfl, ha, ?_⟩
      cases hp : parse m with
      | none => exact .inl ⟨.badLength, nofun, State.admitPart_of_parse_none hq ha hp⟩
      | some fields =>
        cases hr : s.commonRefusal (tagOf m) with
        | some status =>
          exact .inl ⟨status, State.commonRefusal_ne_ok hr, State.admitPart_of_commonRefusal_some hq ha hp hr⟩
        | none =>
          by_cases hi : inRange fields = true
          · exact .inr ⟨fields, rfl, hi, rfl, State.admitPart_of_commonRefusal_none hq ha hp hr hi⟩
          · refine .inl ⟨.badParam, nofun, ?_⟩
            rw [State.admitPart, State.takeMessage_cons s _ _ m rest hq ha]
            simp only [hp, State.earlyRefusal_taken, hr, if_neg hi, State.refuse_taken]
    · refine .inl (State.takeMessage_other s _ _ fun m' rest' h => ?_)
      rw [hq] at h
      cases h
      simpa using ha

end

section
variable {α : Type} {s : State} {m : Message} {rest : List Message} {accepts : Message → Bool}
  {parse : Message → Option (Byte × α)} {inRange : α → Bool} {act : State → Byte → Byte → ConnId → α → State}
  {slot : Byte} {fields : α}

/-- Check 1 fails. -/
theorem State.admitSlot_of_parse_none (hq : s.admissionQueue = m :: rest) (ha : accepts m = true)
    (hp : parse m = none) :
    s.admitSlot accepts parse inRange act = s.answered (codeOf m) (tagOf m) .badLength .empty := by
  rw [State.admitSlot, State.takeMessage_cons s _ _ m rest hq ha]
  simp only [hp, State.refuse_taken]

/-- Check 1 passes and one of checks 2 to 4 fails. -/
theorem State.admitSlot_of_commonRefusal_some {status : Status} (hq : s.admissionQueue = m :: rest)
    (ha : accepts m = true) (hp : parse m = some (slot, fields)) (hr : s.commonRefusal (tagOf m) = some status) :
    s.admitSlot accepts parse inRange act = s.answered (codeOf m) (tagOf m) status .empty := by
  rw [State.admitSlot, State.takeMessage_cons s _ _ m rest hq ha]
  simp only [hp, State.earlyRefusal_taken, hr, State.refuse_taken]

/-- Checks 1 to 4 pass: the slot decides, then the ranges. -/
theorem State.admitSlot_of_commonRefusal_none (hq : s.admissionQueue = m :: rest) (ha : accepts m = true)
    (hp : parse m = some (slot, fields)) (hr : s.commonRefusal (tagOf m) = none) :
    s.admitSlot accepts parse inRange act =
      match s.resolve slot with
      | none => s.answered (codeOf m) (tagOf m) .badSlot .empty
      | some c =>
        if inRange fields then act s.taken (tagOf m) slot c fields
        else s.answered (codeOf m) (tagOf m) .badParam .empty := by
  have hresolve : s.taken.resolve slot = s.resolve slot := rfl
  rw [State.admitSlot, State.takeMessage_cons s _ _ m rest hq ha]
  simp only [hp, State.earlyRefusal_taken, hr, hresolve, State.refuse_taken] <;> rfl

end

/-- A request that names a slot finds no message of its own, is refused, or is admitted. -/
theorem State.admitSlot_cases {α : Type} (s : State) (accepts : Message → Bool)
    (parse : Message → Option (Byte × α)) (inRange : α → Bool) (act : State → Byte → Byte → ConnId → α → State) :
    s.admitSlot accepts parse inRange act = s ∨
      ∃ m rest, s.admissionQueue = m :: rest ∧ accepts m = true ∧
        ((∃ status, status ≠ .ok ∧
            s.admitSlot accepts parse inRange act = s.answered (codeOf m) (tagOf m) status .empty) ∨
          ∃ slot fields c, parse m = some (slot, fields) ∧ inRange fields = true ∧ s.commonRefusal (tagOf m) = none ∧
            s.resolve slot = some c ∧
            s.admitSlot accepts parse inRange act = act s.taken (tagOf m) slot c fields) := by
  cases hq : s.admissionQueue with
  | nil => exact .inl (State.takeMessage_other s _ _ fun m rest h => by rw [hq] at h; cases h)
  | cons m rest =>
    by_cases ha : accepts m = true
    · refine .inr ⟨m, rest, rfl, ha, ?_⟩
      cases hp : parse m with
      | none => exact .inl ⟨.badLength, nofun, State.admitSlot_of_parse_none hq ha hp⟩
      | some p =>
        obtain ⟨slot, fields⟩ := p
        cases hr : s.commonRefusal (tagOf m) with
        | some status =>
          exact .inl ⟨status, State.commonRefusal_ne_ok hr, State.admitSlot_of_commonRefusal_some hq ha hp hr⟩
        | none =>
          have h := State.admitSlot_of_commonRefusal_none (inRange := inRange) (act := act) hq ha hp hr
          cases hc : s.resolve slot with
          | none =>
            rw [hc] at h
            exact .inl ⟨.badSlot, nofun, h⟩
          | some c =>
            rw [hc] at h
            by_cases hi : inRange fields = true
            · exact .inr ⟨slot, fields, c, rfl, hi, rfl, hc, h.trans (if_pos hi)⟩
            · exact .inl ⟨.badParam, nofun, h.trans (if_neg hi)⟩
    · refine .inl (State.takeMessage_other s _ _ fun m' rest' h => ?_)
      rw [hq] at h
      cases h
      simpa using ha

/-! ### Bus-class requests -/

/-- The part with a bus-class request admitted, before its start decision: the youngest entry, and the OK of a POST_WRITE
(R59, R60, R62, R64). -/
def BusRequest.admitted (r : BusRequest) (s : State) (c : ConnId) (tag slot : Byte) : State :=
  (s.taken.withConn c
    { s.conns[c] with
      queue := s.conns[c].queue ++ [r.entry s.conns[c] tag slot]
      postingCounter := r.counterAfter s.conns[c] }).withOut (r.outAfter s c tag slot)

/-- What a bus-class request of given fields comes to, checks 2 to 9 in their order (R53 to R57). -/
def BusRequest.outcome (r : BusRequest) (s : State) (tag slot : Byte) (lines : BusLines) : State :=
  match r.refusal s tag slot, s.resolve slot with
  | some status, _ => s.answered r.code tag status .empty
  | none, some c => (r.admitted s c tag slot).started c lines
  | none, none => s

/-- The checks of a bus-class request in the order admission takes them; those on the connector do not look at the
admission queue (R53). -/
theorem BusRequest.refusal_eq (r : BusRequest) (s : State) (tag slot : Byte) :
    r.refusal s tag slot =
      match s.commonRefusal tag with
      | some status => some status
      | none =>
        match s.resolve slot with
        | none => some .badSlot
        | some c => if r.inRange then s.taken.busRefusal c else some .badParam := by
  unfold BusRequest.refusal
  cases s.commonRefusal tag with
  | some status => rfl
  | none =>
    cases s.resolve slot with
    | none => rfl
    | some c =>
      cases r.inRange with
      | false => rfl
      | true =>
        simp only [State.busRefusal, not_or]
        rfl

/-- Admission of a bus-class request by the fields its message carries (R53 to R57). -/
theorem State.admitBus_of_parse {α : Type} {s : State} {m : Message} {rest : List Message} {code : Byte}
    {parse : Message → Option (Byte × α)} {inRange : α → Bool} {act : State → Byte → Byte → ConnId → α → State}
    {slot : Byte} {fields : α} {r : BusRequest} {lines : BusLines} (hq : s.admissionQueue = m :: rest)
    (ha : m.head? = some code) (hp : parse m = some (slot, fields)) (hcode : r.code = code)
    (hin : inRange fields = r.inRange)
    (hact : ∀ c, act s.taken (tagOf m) slot c fields = (r.admitted s c (tagOf m) slot).started c lines) :
    s.admitBus code parse inRange act = r.outcome s (tagOf m) slot lines := by
  have hhas : hasCode code m = true := hasCode_eq_true.2 ha
  have hm : codeOf m = r.code := (codeOf_of_head? ha).trans hcode.symm
  unfold BusRequest.outcome
  rw [BusRequest.refusal_eq]
  cases hr : s.commonRefusal (tagOf m) with
  | some status => rw [State.admitBus, State.admitSlot_of_commonRefusal_some hq hhas hp hr, hm]
  | none =>
    rw [State.admitBus, State.admitSlot_of_commonRefusal_none hq hhas hp hr, hin, hm]
    cases hc : s.resolve slot with
    | none => rfl
    | some c =>
      cases hi : r.inRange with
      | false => rfl
      | true =>
        simp only [if_true]
        cases hb : s.taken.busRefusal c with
        | some status => simp only [← hcode, State.respond_taken]
        | none => exact hact c

/-! The fields of each bus-class request (R185). -/

/-- The request a transfer's fields are of. -/
def TransferFields.request (f : TransferFields) (kind : EntryKind) : BusRequest :=
  { kind, address := f.address, budget := f.budget, count := f.count, data := f.data }

/-- The request of a slot alone, or of a slot and a length. -/
def slotRequest (kind : EntryKind) (count : Byte) : BusRequest := { kind, address := 0, budget := 0, count, data := [] }

/-- A POST_WRITE's bytes are as many as its count says, and it carries no budget (R61, R185). -/
theorem parsePostWrite_some {m : Message} {slot : Byte} {f : TransferFields} (h : parsePostWrite m = some (slot, f)) :
    f.data.length = f.count.toNat ∧ f.budget = 0 := by
  unfold parsePostWrite at h
  split at h
  next =>
    split at h
    next hl => cases h; exact ⟨hl, rfl⟩
    next => cases h
  next => cases h

/-- A WRITE's bytes are as many as its count says (R185). -/
theorem parseWrite_some {m : Message} {slot : Byte} {f : TransferFields} (h : parseWrite m = some (slot, f)) :
    f.data.length = f.count.toNat := by
  unfold parseWrite at h
  split at h
  next =>
    split at h
    next hl => cases h; exact hl
    next => cases h
  next => cases h

/-- The ranges of a POST_WRITE (R54). -/
theorem TransferFields.writeInRange_postWrite {f : TransferFields} (hl : f.data.length = f.count.toNat)
    (hb : f.budget = 0) : f.writeInRange = (f.request .postWrite).inRange := by
  simp [TransferFields.writeInRange, BusRequest.inRange, TransferFields.request, hl, hb]

/-- The ranges of a WRITE (R54). -/
theorem TransferFields.writeInRange_write {f : TransferFields} (hl : f.data.length = f.count.toNat) :
    f.writeInRange = (f.request .write).inRange := by
  simp [TransferFields.writeInRange, BusRequest.inRange, TransferFields.request, hl]

/-- The admitted entry joins the tail and a start decision follows (R62, R77). -/
theorem BusRequest.onSite_append {s : State} {slot : Byte} (lines : BusLines) {r : BusRequest} {c : ConnId} {tag : Byte}
    {f : Site → Site}
    (hf : f (s.site c) =
      Site.startDecision
        ⟨c, s.slotOf c,
          { s.conns[c] with
            queue := s.conns[c].queue ++ [r.entry s.conns[c] tag slot]
            postingCounter := r.counterAfter s.conns[c] }, r.outAfter s c tag slot⟩ lines) :
    s.taken.onSite c f = (r.admitted s c tag slot).started c lines := by
  have hsite : s.taken.site c = s.site c := rfl
  rw [BusRequest.admitted, State.started, State.onSite_withConn_withOut, State.onSite, hsite, hf]
  rfl

/-! What each bus-class command does for a message of its own, by the fields the message carries. -/

section
variable {s : State} {m : Message} {rest : List Message} {slot : Byte} {f : TransferFields} (lines : BusLines)
  (hr : s.resetting = none) (hq : s.admissionQueue = m :: rest)
include hr hq

theorem execPostWrite_of_parse (ha : m.head? = some 0x10) (hp : parsePostWrite m = some (slot, f)) :
    execPostWrite lines s = .next ((f.request .postWrite).outcome s (tagOf m) slot lines) := by
  obtain ⟨hl, hb⟩ := parsePostWrite_some hp
  refine (State.whenRunning_running hr _).trans (congrArg Host.Outcome.next ?_)
  exact State.admitBus_of_parse hq ha hp rfl (TransferFields.writeInRange_postWrite hl hb) fun c =>
    BusRequest.onSite_append lines rfl

theorem execWrite_of_parse (ha : m.head? = some 0x11) (hp : parseWrite m = some (slot, f)) :
    execWrite lines s = .next ((f.request .write).outcome s (tagOf m) slot lines) := by
  refine (State.whenRunning_running hr _).trans (congrArg Host.Outcome.next ?_)
  exact State.admitBus_of_parse hq ha hp rfl (TransferFields.writeInRange_write (parseWrite_some hp)) fun c =>
    BusRequest.onSite_append lines rfl

theorem execRead_of_parse (ha : m.head? = some 0x12) (hp : parseRead m = some (slot, f)) :
    execRead lines s = .next ((f.request .read).outcome s (tagOf m) slot lines) := by
  refine (State.whenRunning_running hr _).trans (congrArg Host.Outcome.next ?_)
  exact State.admitBus_of_parse hq ha hp rfl rfl fun c => BusRequest.onSite_append lines rfl

theorem execFence_of_parse (ha : m.head? = some 0x13) (hp : parseSlot m = some (slot, ())) :
    execFence lines s = .next ((slotRequest .fence 0).outcome s (tagOf m) slot lines) := by
  refine (State.whenRunning_running hr _).trans (congrArg Host.Outcome.next ?_)
  exact State.admitBus_of_parse hq ha hp rfl rfl fun c => BusRequest.onSite_append lines rfl

theorem execPulseReset_of_parse {ms : Byte} (ha : m.head? = some 0x14) (hp : parseSlotByte m = some (slot, ms)) :
    execPulseReset lines s = .next ((slotRequest .pulseReset ms).outcome s (tagOf m) slot lines) := by
  refine (State.whenRunning_running hr _).trans (congrArg Host.Outcome.next ?_)
  exact State.admitBus_of_parse hq ha hp rfl rfl fun c => BusRequest.onSite_append lines rfl

theorem execClearBus_of_parse (ha : m.head? = some 0x15) (hp : parseSlot m = some (slot, ())) :
    execClearBus lines s = .next ((slotRequest .clearBus 0).outcome s (tagOf m) slot lines) := by
  refine (State.whenRunning_running hr _).trans (congrArg Host.Outcome.next ?_)
  exact State.admitBus_of_parse hq ha hp rfl rfl fun c => BusRequest.onSite_append lines rfl

end

/-- What a bus-class command does: it finds no message of its own, refuses one for its length, or comes to what the
fields call for. -/
theorem State.admitBus_cases {α : Type} (s : State) (code : Byte) (parse : Message → Option (Byte × α))
    (inRange : α → Bool) (act : State → Byte → Byte → ConnId → α → State) :
    s.admitBus code parse inRange act = s ∨
      ∃ m rest, s.admissionQueue = m :: rest ∧ m.head? = some code ∧
        (s.admitBus code parse inRange act = s.answered code (tagOf m) .badLength .empty ∨
          ∃ slot fields, parse m = some (slot, fields)) := by
  by_cases hother : ∀ m rest, s.admissionQueue = m :: rest → hasCode code m = false
  · left
    rw [State.admitBus, State.admitSlot, State.takeMessage_other s _ _ hother]
  · simp only [not_forall, Bool.not_eq_false] at hother
    obtain ⟨m, rest, hq, ha⟩ := hother
    have hhead := hasCode_eq_true.1 ha
    refine .inr ⟨m, rest, hq, hhead, ?_⟩
    cases hp : parse m with
    | none =>
      rw [State.admitBus, State.admitSlot_of_parse_none hq ha hp, codeOf_of_head? hhead]
      exact .inl rfl
    | some p => exact .inr ⟨p.1, p.2, rfl⟩

end Sys2Proof.Machine
end

section
/-! PROOFS. What a command can do to the part: acts outside device resets that leave the link state and the response
places as they are, and the few commands that do more. -/

namespace Sys2Proof.Machine

/-! ### Acts -/

/-- What a command does outside a device reset, one act at a time: a move of a connector's blocks, an event of no
connector, an answer, an admission, a rule of the Link Interface that leaves its state, new link parameters, a new slot
map. -/
inductive State.Act : State → State → Prop
  | move (s : State) (c : ConnId) (u : Site) (h : Site.Move (s.site c) u) : Act s (s.putSite c u)
  | raise (s : State) (e : Event) : Act s (s.raise e)
  | answer (s : State) (m : Message) (rest : List Message) (r : Response) (hq : s.admissionQueue = m :: rest)
      (hr : r.isRestartOk = false) : Act s (s.taken.respond r)
  | admission (s : State) (r : BusRequest) (m : Message) (rest : List Message) (c : ConnId) (tag slot : Byte)
      (hq : s.admissionQueue = m :: rest) (hr : r.refusal s tag slot = none) (hc : s.resolve slot = some c) :
      Act s (r.admitted s c tag slot)
  | link (s : State) (l : Link) (h : Link.Rule s.link l) (hs : l.state = s.link.state)
      (ho : l.restartOks = s.link.restartOks) : Act s (s.withLink l)
  | control (s : State) (k : Control) (h : k.restartGuard = s.control.restartGuard) : Act s { s with control := k }
  | remap (s : State) (table : Vector (Option ConnId) 8) (h : s.mapRefusal table = none) : Act s (s.remap table)

/-- Acts one after another. -/
abbrev State.Acts : State → State → Prop := Relation.ReflTransGen State.Act

/-- What a command does to the part. -/
inductive Effect : Instr → State → State → Prop
  | acts {i : Instr} {s t : State} (hr : s.resetting = none) (h : State.Acts s t) : Effect i s t
  | held {i : Instr} {s : State} (hr : s.resetting ≠ none) : Effect i s s
  | levels {i : Instr} {s : State} (c : ConnId) (pres oc pg attn : Bool) (hr : s.resetting ≠ none) :
      Effect i s
        (s.withConn c
          { s.conns[c] with presAsserted := pres, ocAsserted := oc, pgAsserted := pg, attnAsserted := attn })
  | accepted {s : State} (raw : List RxByte) (payload : Message) (hr : s.resetting = none)
      (hup : s.link.state = .up) (hp : s.placesInUse < 64) :
      Effect (.dataFrame raw) s
        { s.withLink s.heard.link.accept with admissionQueue := s.admissionQueue ++ [payload] }
  | framed {s : State} (hr : s.resetting = none) : Effect .frameSchedule s s.frameOne
  | synced {s : State} (raw : List RxByte) (hr : s.resetting = none) :
      Effect (.sync raw) s (s.withLink (s.heard.link.synchronise s.control.replayTimeout))
  | wentDown {i : Instr} {s : State} (l : Link) (hi : i = .replayTimerExpiry ∨ ∃ raw, i = .nakUnsynced raw)
      (hr : s.resetting = none) (hp : s.restartPending = false) (hup : s.link.state = .up)
      (hl : Link.Rules s.link l) (hs : l.state = .down) (ho : l.restartOks = s.link.restartOks) :
      Effect i s (s.withLink l)
  | restartWaits {s : State} (m : Message) (rest : List Message) (tag : Byte) (hr : s.resetting = none)
      (hq : s.admissionQueue = m :: rest) (hp : s.restartPending = false) (hup : s.link.state = .up) :
      Effect .restart s
        { s.answered 0x03 tag .ok .empty with
          restartPending := true
          control := { s.control with restartGuard := some 1000 } }
  | resetBegins {i : Instr} {s : State} (l : Link) (sources : ResetSources) (hr : s.resetting = none)
      (hl : Link.Rules s.link l)
      (hs : l.state = s.link.state ∨
        (l.state = .down ∧ (i = .replayTimerExpiry ∨ ∃ raw, i = .nakUnsynced raw))) :
      Effect i s ((s.withLink l).resetBegun sources)
  | resetJoined {s : State} (source : ExternalReset) (r r' : ResetSources) (hr : s.resetting = some r) :
      Effect (.deviceResetBegin source) s { s with resetting := some r' }
  | resetEnds {s : State} (straps : Straps) (r : ResetSources) (hr : s.resetting = some r) :
      Effect (.deviceResetEnd straps) s (s.afterReset r straps)

/-! ### A connector's moves are acts -/

theorem State.putSite_site (s : State) (c : ConnId) : s.putSite c (s.site c) = s := by
  simp [State.putSite, State.site]

/-- The site put back is the site found. -/
theorem State.site_putSite {s : State} {c : ConnId} {u : Site} (h : u.place = (s.site c).place) :
    (s.putSite c u).site c = u := by
  obtain ⟨hid, hslot⟩ := Prod.mk.inj h
  obtain ⟨id, slot, conn, out⟩ := u
  obtain rfl : id = c := hid
  obtain rfl : slot = s.slotOf id := hslot
  exact State.site_withConn_withOut s id conn out

theorem State.putSite_putSite (s : State) (c : ConnId) (u v : Site) :
    (s.putSite c u).putSite c v = s.putSite c v := by
  simp [State.putSite]

theorem Site.Moves.place {t u : Site} (h : Site.Moves t u) : u.place = t.place := by
  induction h with
  | refl => rfl
  | tail _ h ih => rw [h.place, ih]

/-- Moves of one connector's blocks are acts on the part. -/
theorem Site.Moves.acts {s : State} {c : ConnId} {u : Site} (h : Site.Moves (s.site c) u) :
    State.Acts s (s.putSite c u) := by
  induction h with
  | refl => rw [State.putSite_site]
  | @tail v w hv hm ih =>
    have hsite := State.site_putSite (Site.Moves.place hv)
    have hact := State.Act.move (s.putSite c v) c w (by rw [hsite]; exact hm)
    rw [State.putSite_putSite] at hact
    exact ih.tail hact

theorem State.acts_onSite {s : State} (c : ConnId) {f : Site → Site} (h : Site.Moves (s.site c) (f (s.site c))) :
    State.Acts s (s.onSite c f) := h.acts

/-- A start decision is acts (R77). -/
theorem State.acts_started (s : State) (c : ConnId) (lines : BusLines) : State.Acts s (s.started c lines) :=
  State.acts_onSite c (Site.startDecision_moves _ lines)

/-! ### The head message answered -/

theorem State.acts_answered {s : State} {m : Message} {rest : List Message} (hq : s.admissionQueue = m :: rest)
    {code tag : Byte} {status : Status} {body : ResponseBody} (h : code ≠ codeRestart ∨ status ≠ .ok) :
    State.Acts s (s.answered code tag status body) := by
  refine .single (.answer s m rest ⟨code, tag, status, body⟩ hq ?_)
  obtain h | h := h <;> simp [Response.isRestartOk, h]

/-- Moves of a connector's blocks, then the answer. -/
theorem State.acts_taken_onSite {s : State} {m : Message} {rest : List Message} (hq : s.admissionQueue = m :: rest)
    (c : ConnId) {f : Site → Site} {r : Site → Response} (hm : Site.Moves (s.site c) (f (s.site c)))
    (hr : (r (s.site c)).isRestartOk = false) :
    State.Acts s (s.taken.onSite c fun t => (f t).respond (r t)) := by
  rw [State.taken_onSite_respond]
  exact (State.acts_onSite c hm).tail (.answer _ m rest _ hq hr)

/-- A request that names no slot is acts where its owner's action is. -/
theorem State.acts_admitPart {α : Type} {s : State} {accepts : Message → Bool} {parse : Message → Option α}
    {inRange : α → Bool} {act : State → Byte → α → State}
    (hact : ∀ m rest fields, s.admissionQueue = m :: rest → parse m = some fields → inRange fields = true →
      State.Acts s (act s.taken (tagOf m) fields)) : State.Acts s (s.admitPart accepts parse inRange act) := by
  obtain h | ⟨m, rest, hq, -, ⟨status, hs, h⟩ | ⟨fields, hp, hi, -, h⟩⟩ := s.admitPart_cases accepts parse inRange act <;>
    rw [h]
  · exact State.acts_answered hq (.inr hs)
  · exact hact m rest fields hq hp hi

/-- A request that names a slot is acts where its owner's action is. -/
theorem State.acts_admitSlot {α : Type} {s : State} {accepts : Message → Bool} {parse : Message → Option (Byte × α)}
    {inRange : α → Bool} {act : State → Byte → Byte → ConnId → α → State}
    (hact : ∀ m rest slot fields c, s.admissionQueue = m :: rest → inRange fields = true →
      State.Acts s (act s.taken (tagOf m) slot c fields)) : State.Acts s (s.admitSlot accepts parse inRange act) := by
  obtain h | ⟨m, rest, hq, -, ⟨status, hs, h⟩ | ⟨slot, fields, c, -, hi, -, -, h⟩⟩ :=
    s.admitSlot_cases accepts parse inRange act <;> rw [h]
  · exact State.acts_answered hq (.inr hs)
  · exact hact m rest slot fields c hq hi

/-! ### Bus-class requests -/

theorem BusRequest.code_ne_restart (r : BusRequest) : r.code ≠ codeRestart := by
  unfold BusRequest.code
  split <;> decide

/-- What the fields of a bus-class request call for is acts. -/
theorem BusRequest.acts_outcome (r : BusRequest) {s : State} {m : Message} {rest : List Message}
    (hq : s.admissionQueue = m :: rest) (tag slot : Byte) (lines : BusLines) :
    State.Acts s (r.outcome s tag slot lines) := by
  unfold BusRequest.outcome
  cases hr : r.refusal s tag slot with
  | some status => exact State.acts_answered hq (.inl r.code_ne_restart)
  | none =>
    cases hc : s.resolve slot with
    | none => exact .refl
    | some c => exact .head (.admission s r m rest c tag slot hq hr hc) (State.acts_started _ c lines)

/-- A bus-class command is acts. -/
theorem State.acts_admitBus {α : Type} {s : State} {code : Byte} {parse : Message → Option (Byte × α)}
    {inRange : α → Bool} {act : State → Byte → Byte → ConnId → α → State} (hcode : code ≠ codeRestart)
    {lines : BusLines}
    (hreq : ∀ m rest slot fields, s.admissionQueue = m :: rest → m.head? = some code → parse m = some (slot, fields) →
      ∃ r : BusRequest, s.admitBus code parse inRange act = r.outcome s (tagOf m) slot lines) :
    State.Acts s (s.admitBus code parse inRange act) := by
  obtain h | ⟨m, rest, hq, ha, h | ⟨slot, fields, hp⟩⟩ := s.admitBus_cases code parse inRange act
  · rw [h]
  · rw [h]; exact State.acts_answered hq (.inl hcode)
  · obtain ⟨r, h⟩ := hreq m rest slot fields hq ha hp
    rw [h]
    exact r.acts_outcome hq (tagOf m) slot lines

end Sys2Proof.Machine
end

section
/-! PROOFS. The commands of the Link Interface: what each rule comes to on the whole part, and the obligations on
acknowledgements, NAK(UNSYNCED), SYNC, the link's timers and the transmitter (O26, O35, O36, O37, O39, O41). -/

namespace Sys2Proof.Machine

/-! ### Device resets begin -/

/-- A device reset begins with its source (R178). -/
theorem State.beginReset_of_running {s : State} (hr : s.resetting = none) (source : ResetSource) :
    s.beginReset source = s.resetBegun (ResetSources.add ⟨false, false, false⟩ source) := by
  rw [State.beginReset, hr]
  rfl

/-- A source joins the reset in progress (R179). -/
theorem State.beginReset_of_resetting {s : State} {r : ResetSources} (hr : s.resetting = some r) (source : ResetSource) :
    s.beginReset source = { s with resetting := some (r.add source) } := by
  rw [State.beginReset, hr]

/-- Settles O26: the two cases of R178 and R179. -/
theorem deviceResetBegins : Obligations.DeviceResetBegins := by
  unfold Obligations.DeviceResetBegins
  intro source s
  refine ⟨fun hr => ?_, fun r hr => ?_⟩
  · refine congrArg Host.Outcome.next ((State.beginReset_of_running hr (externalSource source)).trans ?_)
    cases source <;> rfl
  · refine congrArg Host.Outcome.next ((State.beginReset_of_resetting hr (externalSource source)).trans ?_)
    cases source <;> simp [ResetSources.add, externalSource]

/-- A RESTART takes effect (R164, R178). -/
theorem State.beginReset_restart {s : State} (hr : s.resetting = none) : s.beginReset .restart = s.restarted :=
  State.beginReset_of_running hr .restart

/-! ### Numbers acknowledged (R156) -/

/-- The frames a number acknowledges, where it is valid. -/
theorem Link.acknowledged_eq (l : Link) (n : Seq) :
    l.acknowledged n =
      if l.replay.length < (n - l.oldest).toNat then none else some (n - l.oldest).toNat := by
  rw [Link.acknowledged]
  by_cases h : (n - l.oldest).toNat ≤ l.replay.length
  · rw [if_pos h, if_neg (Nat.not_lt.2 h)]
  · rw [if_neg h, if_pos (Nat.not_le.1 h)]

/-- A number received: invalid outside UP and where it reaches past the frames held; else frames leave, and the restart
takes effect or the frame's own rule follows (R144, R156, R164). -/
theorem State.receiveNumber_eq {s : State} (hr : s.resetting = none) (n : Seq) (cause : Link → Link) :
    s.receiveNumber n cause =
      if s.link.state ≠ .up ∨ s.link.replay.length < (n - s.link.oldest).toNat then s.withLink s.link.erred
      else
        let left := s.link.acked (n - s.link.oldest).toNat s.control.replayTimeout
        if (s.link.replay.take (n - s.link.oldest).toNat).any (fun f => f.restartOk) then (s.withLink left).restarted
        else s.withLink (cause left) := by
  unfold State.receiveNumber
  cases hs : s.link.state with
  | start | down =>
    rw [if_pos (.inl nofun), ← Link.protocolError_eq_erred]
    rfl
  | up =>
    simp only [State.takeNumber, Link.acknowledged_eq, Link.protocolError_eq_erred, Link.removeFrames_eq_acked]
    by_cases hv : s.link.replay.length < (n - s.link.oldest).toNat
    · rw [if_pos hv, if_pos (.inr hv)]
      rfl
    · rw [if_neg hv, if_neg (not_or.2 ⟨not_not.2 rfl, hv⟩)]
      simp only
      split
      next => exact State.beginReset_restart hr
      next => rfl

/-- Settles O35: every acknowledgement comes to its number, and then to its own rule (R156 to R158). -/
theorem acknowledgementIsHandled : Obligations.AcknowledgementIsHandled := by
  unfold Obligations.AcknowledgementIsHandled
  intro raw n s hr l k taken
  have htaken : ∀ cause, s.heard.receiveNumber n cause = taken cause := fun cause =>
    State.receiveNumber_eq (s := s.heard) hr n cause
  refine ⟨fun hrx => ?_, fun hrx => ?_, fun hrx => ?_⟩
  · change execAckFrame raw s = _
    rw [execAckFrame, State.whenRunning_running hr, State.onFrame_of_receivedFrame hrx]
    exact congrArg Host.Outcome.next (htaken _)
  · change execNakGap raw s = _
    rw [execNakGap, State.whenRunning_running hr, State.onFrame_of_receivedFrame hrx, ← funext Link.resendPass_eq_passed]
    exact congrArg Host.Outcome.next (htaken _)
  · change execNakHold raw s = _
    rw [execNakHold, State.whenRunning_running hr, State.onFrame_of_receivedFrame hrx]
    exact congrArg Host.Outcome.next (htaken _)

/-! ### The link enters DOWN -/

/-- The part enters DOWN, where a pending RESTART takes effect (R146, R164). -/
theorem State.enterDown_eq {s : State} (hr : s.resetting = none) :
    s.enterDown =
      let u := s.withLink (s.link.wentDown s.control.hostLossTimeout)
      if s.restartPending then u.restarted else u := by
  rw [State.enterDown, Link.enterDown_eq_wentDown]
  simp only
  split
  next => exact State.beginReset_restart hr
  next => rfl

/-- Settles O36: in UP the part enters DOWN, elsewhere it has only heard the frame (R159). -/
theorem hostUnsyncedEntersDown : Obligations.HostUnsyncedEntersDown := by
  unfold Obligations.HostUnsyncedEntersDown
  intro raw n s hr hrx l
  change execNakUnsynced raw s = _
  rw [execNakUnsynced, State.whenRunning_running hr, State.onFrame_of_receivedFrame hrx]
  refine congrArg Host.Outcome.next ?_
  by_cases hup : l.state = .up
  · exact (if_pos hup).trans ((State.enterDown_eq (s := s.heard) hr).trans (if_pos hup).symm)
  · exact (if_neg hup).trans (if_neg hup).symm

/-- Settles O37: the frames are renumbered from 0 and marked by one pass (R161). -/
theorem syncRenumbersTheLink : Obligations.SyncRenumbersTheLink := by
  unfold Obligations.SyncRenumbersTheLink
  intro raw s hr hrx l
  change execSync raw s = _
  rw [execSync, State.whenRunning_running hr, State.onFrame_of_receivedFrame hrx]
  refine congrArg (Host.Outcome.next ∘ s.withLink) ?_
  have hmarked : (renumber 0 l.replay).map (fun f => { f with marked := true }) =
      l.replay.zipIdx.map fun (f, i) => { f with number := BitVec.ofNat 6 i, marked := true } := by
    simp only [renumber_eq, List.map_map]
    exact List.map_congr_left fun p _ => by simp
  have hempty : renumber 0 l.replay = [] ↔ l.replay = [] := by simp [renumber_eq]
  have hreplay : s.heard.link.replay = l.replay := rfl
  rw [Link.synchronise, Link.resendPass_eq_passed, Link.passed]
  simp only [hreplay, hmarked, hempty]
  by_cases hl : l.replay = []
  · rw [if_pos hl, if_pos hl]
    simp only [hl]
    rfl
  · simp only [if_neg hl]
    rfl

/-! ### The link's timers -/

/-- Settles O39: each timer's expiry where it runs (R147, R158, R160). -/
theorem linkTimersExpire : Obligations.LinkTimersExpire := by
  unfold Obligations.LinkTimersExpire
  intro s hr l
  refine ⟨fun hup ht => ?_, fun hp => ?_, fun _ => ?_⟩
  · change execReplayTimerExpiry s = _
    rw [execReplayTimerExpiry, State.whenRunning_running hr]
    refine congrArg Host.Outcome.next ((if_pos ⟨ht, hup⟩).trans ?_)
    by_cases hc : l.replayCount + 1 < 4
    · refine (if_pos hc).trans (Eq.trans ?_ (if_pos hc).symm)
      rw [Link.replayAgain, Link.resendPass_eq_passed]
      rfl
    · refine (if_neg hc).trans (Eq.trans ?_ (if_neg hc).symm)
      exact State.enterDown_eq (s := s.withLink { l with replayCount := l.replayCount + 1 }) hr
  · change execHoldPauseExpiry s = _
    rw [execHoldPauseExpiry, State.whenRunning_running hr]
    refine congrArg Host.Outcome.next ((if_pos hp).trans ?_)
    rw [Link.resendPass_eq_passed]
    rfl
  · change execUnsyncedNakSpacingExpiry s = _
    exact State.whenRunning_running hr _

/-! ### The transmitter -/

/-- The oldest marked frame loses its mark (R153). -/
theorem unmarkFirst_append_cons {older younger : List ReplayFrame} {f : ReplayFrame}
    (ho : ∀ g ∈ older, g.marked = false) (hf : f.marked = true) :
    unmarkFirst (older ++ f :: younger) = older ++ { f with marked := false } :: younger := by
  induction older with
  | nil => simp [unmarkFirst, hf]
  | cons g older ih =>
    rw [List.cons_append, unmarkFirst, ho g List.mem_cons_self, ih fun x hx => ho x (List.mem_cons_of_mem _ hx)]
    rfl

theorem find?_marked_append_cons {older younger : List ReplayFrame} {f : ReplayFrame}
    (ho : ∀ g ∈ older, g.marked = false) (hf : f.marked = true) :
    (older ++ f :: younger).find? (fun g => g.marked) = some f := by
  rw [List.find?_append, List.find?_eq_none.2 (by simpa using ho)]
  simp [hf]

theorem exec_transmitNextFrame {s : State} (hr : s.resetting = none) :
    exec .transmitNextFrame s = .next (s.withLink s.link.transmit) := by
  change execTransmitNextFrame s = _
  exact State.whenRunning_running hr _

/-- Settles O41: the four kinds of frame in their order, then the idle line (R153). -/
theorem transmitterTakesFirstWaiting : Obligations.TransmitterTakesFirstWaiting := by
  unfold Obligations.TransmitterTakesFirstWaiting
  intro s hr l
  refine ⟨fun a ha => ?_, fun cause rest hs hn => ?_, fun hs hn ha => ?_,
    fun older f younger hs hn ha hup hp hq ho hf => ?_,
    fun hs hn ha h => ?_⟩ <;> rw [exec_transmitNextFrame hr] <;>
      refine congrArg (Host.Outcome.next ∘ s.withLink) ?_ <;> rw [Link.transmit]
  · rw [ha]
  · rw [hs, hn]
  · rw [hs, hn]
    exact if_pos ha
  · rw [hs, hn, hq]
    refine (if_neg (by rw [ha]; nofun)).trans ((if_pos ⟨hup, hp⟩).trans ?_)
    rw [find?_marked_append_cons ho hf, unmarkFirst_append_cons ho hf]
  · rw [hs, hn]
    refine (if_neg (by rw [ha]; nofun)).trans ?_
    by_cases hup : s.link.state = .up ∧ s.link.holdPause = none
    · have hnone : s.link.replay.find? (fun g => g.marked) = none := by
        rw [List.find?_eq_none]
        intro g hg
        obtain h | h | h := h
        · exact absurd hup.1 h
        · rw [hup.2] at h; cases h
        · rw [h g hg]; nofun
      rw [if_pos hup, hnone]
    · rw [if_neg hup]

end Sys2Proof.Machine
end

section
/-! PROOFS. Every command answers a next state, and what it does to the part is one of the effects: command by command,
then the obligation that every command answers next (O2). -/

namespace Sys2Proof.Machine

/-- A command's answer and effect. -/
abbrev Answers (i : Instr) (s : State) (a : Answer) : Prop := ∃ t, a = .next t ∧ Effect i s t

/-- A command that finds nothing to act on during a device reset. -/
theorem answers_whenRunning {i : Instr} {s : State} {f : State → State} (h : s.resetting = none → Effect i s (f s)) :
    Answers i s (s.whenRunning f) := by
  by_cases hr : s.resetting = none
  · exact ⟨f s, State.whenRunning_running hr f, h hr⟩
  · exact ⟨s, State.whenRunning_resetting hr f, .held hr⟩

/-- The same, for a command of acts. -/
theorem answers_of_acts {i : Instr} {s : State} {f : State → State} (h : State.Acts s (f s)) :
    Answers i s (s.whenRunning f) :=
  answers_whenRunning fun hr => .acts hr h

/-- A command about one connector. -/
theorem answers_onSite {i : Instr} {s : State} {c : ConnId} {f : Site → Site} (h : ∀ t, Site.Moves t (f t)) :
    Answers i s (s.whenRunning fun s => s.onSite c f) :=
  answers_of_acts (State.acts_onSite c (h _))

/-- A change of an input: only its level is recorded during a device reset (R178). -/
theorem answers_inputChange {i : Instr} {s : State} {c : ConnId} {level : Connector → Connector} {f : Site → Site}
    (h : ∀ t, Site.Moves t (f t))
    (hl : ∃ pres oc pg attn,
      level s.conns[c] =
        { s.conns[c] with presAsserted := pres, ocAsserted := oc, pgAsserted := pg, attnAsserted := attn }) :
    Answers i s (s.inputChange c level f) := by
  by_cases hr : s.resetting = none
  · refine ⟨s.onSite c f, ?_, .acts hr (State.acts_onSite c (h _))⟩
    simp [State.inputChange, hr]
  · obtain ⟨pres, oc, pg, attn, hl⟩ := hl
    refine ⟨_, ?_, .levels c pres oc pg attn hr⟩
    rw [← hl]
    cases hs : s.resetting with
    | none => exact absurd hs hr
    | some r =>
      simp only [State.inputChange, hs]
      rfl

/-! ### Inputs and timers of a connector -/

theorem answers_presenceDebounceExpiry (c : ConnId) (lines : BusLines) (s : State) :
    Answers (.presenceDebounceExpiry c lines) s (exec (.presenceDebounceExpiry c lines) s) := by
  change Answers _ s (execPresenceDebounceExpiry c lines s)
  refine answers_onSite fun t => ?_
  split
  next h =>
    have hm : t.conn.state ≠ .unused := by simpa [Connector.isMapped] using h.2
    by_cases he : t.conn.state = .empty
    · exact (if_pos he) ▸ Site.insertion_moves t lines he h.1
    · exact (if_neg he) ▸ Site.removal_moves t he hm h.1
  next => exact .refl

theorem answers_inrushTimerExpiry (c : ConnId) (s : State) :
    Answers (.inrushTimerExpiry c) s (exec (.inrushTimerExpiry c) s) := by
  change Answers _ s (execInrushTimerExpiry c s)
  refine answers_onSite fun t => ?_
  split
  next =>
    exact Site.reviewFault_moves (oc := t.conn.ocAsserted) (pg := t.conn.pgAsserted) (inrush := none) rfl (.inr rfl)
  next => exact .refl

/-- The qualify timer's expiry on a connector without power leaves nothing but a stopped timer. -/
theorem answers_qualifyTimerExpiry (c : ConnId) (s : State) :
    Answers (.qualifyTimerExpiry c) s (exec (.qualifyTimerExpiry c) s) := by
  change Answers _ s (execQualifyTimerExpiry c s)
  refine answers_onSite fun t => ?_
  split
  next =>
    cases hp : t.conn.state.powered with
    | true =>
      exact Site.takeFault_moves (oc := t.conn.ocAsserted) (pg := t.conn.pgAsserted) (inrush := t.conn.inrush)
        (qualify := none) _ rfl hp
    | false =>
      have hu : (t.setConn { t.conn with qualify := none }).conn.state.powered = false := hp
      rw [Site.takeFault_of_unpowered _ hu]
      exact .single (.unqualify t hp)
  next => exact .refl

theorem answers_pgDeadlineExpiry (c : ConnId) (s : State) :
    Answers (.pgDeadlineExpiry c) s (exec (.pgDeadlineExpiry c) s) := by
  change Answers _ s (execPgDeadlineExpiry c s)
  refine answers_onSite fun t => ?_
  split
  next h =>
    exact Site.takeFault_moves (t := t) (oc := t.conn.ocAsserted) (pg := t.conn.pgAsserted) (inrush := t.conn.inrush)
      (qualify := t.conn.qualify) _ rfl (by rw [h.2]; rfl)
  next => exact .refl

theorem answers_retryDelayExpiry (c : ConnId) (lines : BusLines) (s : State) :
    Answers (.retryDelayExpiry c lines) s (exec (.retryDelayExpiry c lines) s) := by
  change Answers _ s (execRetryDelayExpiry c lines s)
  refine answers_onSite fun t => ?_
  split
  next h => exact Site.powerUp_moves t .retry lines (.inr h.2)
  next => exact .refl

theorem answers_recurrenceWindowExpiry (c : ConnId) (s : State) :
    Answers (.recurrenceWindowExpiry c) s (exec (.recurrenceWindowExpiry c) s) := by
  change Answers _ s (execRecurrenceWindowExpiry c s)
  refine answers_onSite fun t => ?_
  split
  next h => exact .single (.window t h.2)
  next => exact .refl

theorem answers_attentionSteady (c : ConnId) (s : State) :
    Answers (.attentionSteady c) s (exec (.attentionSteady c) s) := by
  change Answers _ s (execAttentionSteady c s)
  refine answers_onSite fun t => ?_
  split
  next h => exact .single (.steady t h)
  next => exact .refl

/-! ### Reports of the engine, and the sequencer's timers -/

theorem answers_byteCompleted (c : ConnId) (value : Byte) (s : State) :
    Answers (.byteCompleted c value) s (exec (.byteCompleted c value) s) := by
  change Answers _ s (execByteCompleted c value s)
  refine answers_onSite fun t => ?_
  cases h : t.conn.engine with
  | transferring a =>
    cases ha : a.complete value with
    | some a' => simpa only [ha] using .single (.byte t a a' value h ha)
    | none => simpa only [ha] using .refl
  | off | idle | pulsing | aborting | clearing | hung => exact .refl

theorem answers_attemptOutcome (c : ConnId) (outcome : AttemptOutcome) (lines : BusLines) (s : State) :
    Answers (.attemptOutcome c outcome lines) s (exec (.attemptOutcome c outcome lines) s) := by
  change Answers _ s (execAttemptOutcome c outcome lines s)
  refine answers_onSite fun t => ?_
  cases h : t.conn.engine with
  | transferring a =>
    simp only
    split
    next => exact (t.attemptEnds_moves a outcome h).trans (Site.startDecision_moves _ lines)
    next => exact .refl
  | clearing purpose b =>
    match purpose with
    | .beforeTransfer a false =>
      simp only
      split
      next => exact t.clearEnds_moves _ b false lines h
      next => exact .refl
    | .beforeTransfer _ true | .requested | .afterStretch => exact .refl
  | off | idle | pulsing | aborting | hung => exact .refl

theorem answers_stretchLimit (c : ConnId) (s : State) :
    Answers (.stretchLimit c) s (exec (.stretchLimit c) s) := by
  change Answers _ s (execStretchLimit c s)
  refine answers_onSite fun t => ?_
  cases h : t.conn.engine with
  | transferring a =>
    simp only
    split
    next =>
      have hd : Engine.Drops t.conn.engine (.clearing .afterStretch (BusClear.begun a.speed)) := h ▸ .attemptStretched a
      have hend := t.endActive_moves _ (fun _ => a.completed) .busStuck [] hd
      rwa [Connector.dropWork_of_not_pulsing _ (by rw [h]; rfl)] at hend
    next => exact .refl
  | aborting a finishing =>
    simp only
    split
    next => exact t.leaveWork_moves _ (by rw [h]; rfl) (h ▸ .abortStretched a finishing)
    next => exact .refl
  | clearing purpose b =>
    simp only
    split
    next => exact t.clearEnds_moves purpose b false _ h
    next => exact .refl
  | off | idle | pulsing | hung => exact .refl

theorem answers_busClearEnd (c : ConnId) (data : List Bool) (after lines : BusLines) (s : State) :
    Answers (.busClearEnd c data after lines) s (exec (.busClearEnd c data after lines) s) := by
  change Answers _ s (execBusClearEnd c data after lines s)
  refine answers_onSite fun t => ?_
  cases h : t.conn.engine with
  | clearing purpose b =>
    cases hb : b.result data after with
    | some success => simpa only [hb] using t.clearEnds_moves purpose b success lines h
    | none => simpa only [hb] using .refl
  | off | idle | transferring | pulsing | aborting | hung => exact .refl

theorem answers_abortEnd (c : ConnId) (lines : BusLines) (s : State) :
    Answers (.abortEnd c lines) s (exec (.abortEnd c lines) s) := by
  change Answers _ s (execAbortEnd c lines s)
  refine answers_onSite fun t => ?_
  cases h : t.conn.engine with
  | aborting a finishing =>
    exact (t.leaveWork_moves _ (by rw [h]; rfl) (h ▸ .abortEnds a finishing)).trans (Site.startDecision_moves _ lines)
  | off | idle | transferring | pulsing | clearing | hung => exact .refl

theorem answers_pulseTimerExpiry (c : ConnId) (lines : BusLines) (s : State) :
    Answers (.pulseTimerExpiry c lines) s (exec (.pulseTimerExpiry c lines) s) := by
  change Answers _ s (execPulseTimerExpiry c lines s)
  refine answers_onSite fun t => ?_
  cases h : t.conn.engine with
  | pulsing ms =>
    simp only [Site.setConn_idle_releaseReset h]
    exact (t.endActive_moves .idle (fun e => e.acked) .ok [] (h ▸ .pulseEnds ms)).trans (Site.startDecision_moves _ lines)
  | off | idle | transferring | aborting | clearing | hung => exact .refl

/-- A step about the entry that holds a tag (R72). -/
theorem State.acts_onEntry (s : State) (tag : Byte) {f : Site → Entry → Site}
    (h : ∀ t e, t.conn.entryOf tag = some e → Site.Moves t (f t e)) : State.Acts s (s.onEntry tag f) := by
  unfold State.onEntry
  split
  next c _ =>
    refine State.acts_onSite c ?_
    split
    next e he => exact h _ e he
    next => exact .refl
  next => exact .refl

theorem answers_retryIntervalExpiry (tag : Byte) (lines : BusLines) (s : State) :
    Answers (.retryIntervalExpiry tag lines) s (exec (.retryIntervalExpiry tag lines) s) := by
  change Answers _ s (execRetryIntervalExpiry tag lines s)
  refine answers_of_acts (State.acts_onEntry s tag fun t e he => ?_)
  split
  next h => exact .head (.retry t tag e he h.2) (Site.startDecision_moves _ lines)
  next => exact .refl

theorem answers_deadlineExpiry (tag : Byte) (lines : BusLines) (s : State) :
    Answers (.deadlineExpiry tag lines) s (exec (.deadlineExpiry tag lines) s) := by
  change Answers _ s (execDeadlineExpiry tag lines s)
  refine answers_of_acts (State.acts_onEntry s tag fun t e he => ?_)
  split
  next =>
    exact (t.withdraw_moves e .expired (Connector.entryOf_some he).1).trans (Site.startDecision_moves _ lines)
  next => exact .refl

/-- A CANCEL taken by the sequencer: the entry's end, the answer, the start decision (R93). -/
theorem State.acts_cancel {s : State} {m : Message} {rest : List Message} (hq : s.admissionQueue = m :: rest)
    (c : ConnId) (tag target : Byte) (lines : BusLines) :
    State.Acts s (s.taken.onSite c fun t => t.cancel tag target lines) := by
  have hsite : s.taken.site c = s.site c := rfl
  have hcode : ∀ status, (cancelResponse tag target status).isRestartOk = false := fun _ => rfl
  cases he : (s.site c).conn.entryOf target with
  | none =>
    have hsame : (s.taken.onSite c fun t => t.cancel tag target lines) =
        s.taken.onSite c fun t => t.respond (cancelResponse tag target .notFound) :=
      State.onSite_congr (by rw [hsite, Site.cancel, he])
    rw [hsame]
    exact State.acts_taken_onSite (f := id) (r := fun _ => cancelResponse tag target .notFound) hq c .refl (hcode _)
  | some e =>
    have hplace : ((s.taken.site c).withdraw e .cancelled |>.respond (cancelResponse tag target .ok)).place =
        (s.taken.site c).place := by simp
    have hsame : (s.taken.onSite c fun t => t.cancel tag target lines) =
        State.started (s.taken.onSite c fun t => (t.withdraw e .cancelled).respond (cancelResponse tag target .ok)) c
          lines := by
      rw [State.started, State.onSite_onSite _ hplace]
      exact State.onSite_congr (by rw [hsite, Site.cancel, he])
    rw [hsame]
    exact (State.acts_taken_onSite (f := fun t => t.withdraw e .cancelled) (r := fun _ => cancelResponse tag target .ok)
      hq c (Site.withdraw_moves _ e _ (Connector.entryOf_some he).1) (hcode _)).trans (State.acts_started _ c lines)

end Sys2Proof.Machine
end

section
/-! PROOFS. The effects of the commands of the Link Interface and of the requests, and of every command. -/

namespace Sys2Proof.Machine

/-! ### Rules of the Link Interface on the whole part -/

/-- A rule that leaves the link state and the frames that carry a RESTART's OK. -/
theorem State.acts_link {s : State} {l : Link} (h : Link.Rule s.link l) (hs : l.state = s.link.state)
    (ho : (l.replay.map fun f => f.restartOk) = s.link.replay.map fun f => f.restartOk) : State.Acts s (s.withLink l) :=
  .single (.link s l h hs (Link.restartOks_congr ho))

/-- The part has heard a frame (R141). -/
theorem State.acts_heard (s : State) : State.Acts s s.heard :=
  State.acts_link (.records s.link .hunting s.link.counters) rfl rfl

/-- The part has heard a frame, and one more rule applies. -/
theorem State.acts_heard_link {s : State} {l : Link} (h : Link.Rule s.heard.link l) (hs : l.state = s.link.state)
    (ho : (l.replay.map fun f => f.restartOk) = s.link.replay.map fun f => f.restartOk) : State.Acts s (s.withLink l) :=
  s.acts_heard.trans (State.acts_link (s := s.heard) h hs ho)

/-- A command about a received frame does nothing where there is none. -/
theorem answers_onFrame {i : Instr} {s : State} {raw : List RxByte} {f : State → State → HostFrame → State}
    (h : s.resetting = none → ∀ frame, Effect i s (f s s.heard frame)) :
    Answers i s (s.whenRunning fun s => s.onFrame raw (f s)) := by
  refine answers_whenRunning fun hr => ?_
  cases hrx : receivedFrame s.link.rx raw with
  | none =>
    rw [State.onFrame, hrx]
    exact .acts hr .refl
  | some frame =>
    rw [State.onFrame_of_receivedFrame hrx]
    exact h hr frame

theorem Link.erred_rule (l : Link) : Link.Rule l l.erred := .records l l.rx _

/-- Frames of which none carries a RESTART's OK leave its count. -/
theorem Link.acked_restartOks {l : Link} {k replayTimeout : Nat}
    (h : (l.replay.take k).any (fun f => f.restartOk) = false) : (l.acked k replayTimeout).restartOks = l.restartOks := by
  have hreplay : (l.acked k replayTimeout).replay = l.replay.drop k := by
    unfold Link.acked
    split
    next h => rw [h, List.drop_zero]
    next => rfl
  have hnone : (l.replay.take k).countP (fun f => f.restartOk) = 0 := by
    rw [List.countP_eq_zero]
    rw [List.any_eq_false] at h
    exact h
  rw [Link.restartOks, Link.restartOks, hreplay, ← Nat.zero_add (List.countP _ (l.replay.drop k)), ← hnone,
    ← List.countP_append, List.take_append_drop]

theorem Link.acked_state (l : Link) (k replayTimeout : Nat) : (l.acked k replayTimeout).state = l.state := by
  unfold Link.acked; split <;> rfl

/-- A number received (R156), and what its frame goes on to do. -/
theorem State.effect_receiveNumber {i : Instr} {s : State} (hr : s.resetting = none) (n : Seq) {cause : Link → Link}
    (hrule : ∀ l : Link, l.state = .up → Link.Rule l (cause l)) (hstate : ∀ l, (cause l).state = l.state)
    (hoks : ∀ l, (cause l).restartOks = l.restartOks) : Effect i s (s.heard.receiveNumber n cause) := by
  rw [State.receiveNumber_eq (s := s.heard) hr]
  split
  next => exact .acts hr (State.acts_heard_link (Link.erred_rule _) rfl rfl)
  next hv =>
    have hup : s.heard.link.state = .up := by simpa using (not_or.1 hv).1
    have hacked := Link.Rule.acked s.heard.link (n - s.heard.link.oldest).toNat s.heard.control.replayTimeout hup
    have hleft := s.heard.link.acked_state (n - s.heard.link.oldest).toNat s.heard.control.replayTimeout
    simp only
    split
    next => exact .resetBegins _ _ hr (.tail (.single (.records s.link .hunting s.link.counters)) hacked) (.inl hleft)
    next hn =>
      have hcount := Link.acked_restartOks (replayTimeout := s.heard.control.replayTimeout) (eq_false_of_ne_true hn)
      refine .acts hr (s.acts_heard.trans (.tail (.single (.link _ _ hacked hleft hcount)) ?_))
      exact .link _ _ (hrule _ (hleft.trans hup)) (hstate _) (hoks _)

theorem Link.passed_state (l : Link) : l.passed.state = l.state := by
  obtain ⟨_, h⟩ := l.passed_cases; rw [h]

theorem Link.passed_restartOks (l : Link) : l.passed.restartOks = l.restartOks :=
  Link.restartOks_congr (l.map_passed _ fun _ => rfl)

/-- The part enters DOWN from UP, or a device reset begins (R146, R164). -/
theorem State.effect_enterDown {i : Instr} {s u : State} {count : Nat} {rx : RxState} (hr : s.resetting = none)
    (hup : s.link.state = .up) (hi : i = .replayTimerExpiry ∨ ∃ raw, i = .nakUnsynced raw)
    (hu : u = s.withLink { s.link with rx, replayCount := count })
    (hc : count = s.link.replayCount ∨ count = s.link.replayCount + 1) : Effect i s u.enterDown := by
  have hl : Link.Rules s.link (u.link.wentDown u.control.hostLossTimeout) := by
    rw [hu]
    exact .tail (.single (.records s.link rx s.link.counters)) (.down { s.link with rx } count _ hup hc)
  rw [State.enterDown_eq (by rw [hu]; exact hr)]
  simp only
  split
  next =>
    have hreset : (u.withLink (u.link.wentDown u.control.hostLossTimeout)).restarted =
        (s.withLink (u.link.wentDown u.control.hostLossTimeout)).resetBegun ⟨false, false, true⟩ := by rw [hu]; rfl
    rw [hreset]
    exact .resetBegins _ _ hr hl (.inr ⟨rfl, hi⟩)
  next hp =>
    have hsame : u.withLink (u.link.wentDown u.control.hostLossTimeout) =
        s.withLink (u.link.wentDown u.control.hostLossTimeout) := by rw [hu]; rfl
    have hp' : s.restartPending = false := by
      rw [hu] at hp
      exact eq_false_of_ne_true hp
    rw [hsame]
    exact .wentDown _ hi hr hp' hup hl rfl (Link.restartOks_congr (by rw [hu]; rfl))

/-! ### The receiver's commands -/

theorem answers_dataFrame (raw : List RxByte) (s : State) :
    Answers (.dataFrame raw) s (exec (.dataFrame raw) s) := by
  change Answers _ s (execDataFrame raw s)
  refine answers_onFrame fun hr frame => ?_
  have hstate : s.heard.link.state = s.link.state := rfl
  cases frame with
  | data n payload =>
    cases hs : s.link.state with
    | start | down =>
      simp only [hstate, hs]
      refine .acts hr (State.acts_heard_link (.unsynced _ (by rw [hstate, hs]; nofun)) ?_ ?_) <;>
        rw [Link.unsyncedData_eq] <;> split <;> rfl
    | up =>
      have hup : s.heard.link.state = .up := hs
      simp only [hstate, hs]
      by_cases hn : n = s.heard.link.expected
      · by_cases hfree : s.heard.placesInUse < 64
        · rw [State.receiveData_of_free payload hn hfree]
          exact .accepted raw payload hr hs hfree
        · rw [State.receiveData_of_full payload hn hfree, ← Link.addNak_eq_nakking]
          refine .acts hr (State.acts_heard_link (.hold _ hup) ?_ ?_) <;> rw [Link.addNak_eq_nakking] <;> rfl
      · by_cases hdup : s.heard.link.isDuplicate n = true
        · rw [State.receiveData_of_duplicate payload hn hdup]
          exact .acts hr (State.acts_heard_link (.duplicate _ hup) rfl rfl)
        · rw [State.receiveData_of_gap payload hn hdup]
          refine .acts hr (State.acts_heard_link (.gap _ hup) ?_ ?_) <;> rw [Link.gap_eq] <;> simp only <;> split <;> rfl
  | ack | nak | sync => exact .acts hr .refl

theorem answers_ackFrame (raw : List RxByte) (s : State) : Answers (.ackFrame raw) s (exec (.ackFrame raw) s) := by
  change Answers _ s (execAckFrame raw s)
  refine answers_onFrame fun hr frame => ?_
  cases frame with
  | ack n =>
    exact State.effect_receiveNumber hr n (fun l _ => .records l l.rx l.counters) (fun _ => rfl) fun _ => rfl
  | data | nak | sync => exact .acts hr .refl

theorem answers_nakGap (raw : List RxByte) (s : State) : Answers (.nakGap raw) s (exec (.nakGap raw) s) := by
  change Answers _ s (execNakGap raw s)
  refine answers_onFrame fun hr frame => ?_
  cases frame with
  | nak cause n =>
    cases cause with
    | gap =>
      simp only [funext Link.resendPass_eq_passed]
      exact State.effect_receiveNumber hr n (fun l _ => .passed l) Link.passed_state Link.passed_restartOks
    | hold | unsynced => exact .acts hr .refl
  | data | ack | sync => exact .acts hr .refl

theorem answers_nakHold (raw : List RxByte) (s : State) : Answers (.nakHold raw) s (exec (.nakHold raw) s) := by
  change Answers _ s (execNakHold raw s)
  refine answers_onFrame fun hr frame => ?_
  cases frame with
  | nak cause n =>
    cases cause with
    | hold => exact State.effect_receiveNumber hr n (fun l h => .pause l h) (fun _ => rfl) fun _ => rfl
    | gap | unsynced => exact .acts hr .refl
  | data | ack | sync => exact .acts hr .refl

theorem answers_nakUnsynced (raw : List RxByte) (s : State) :
    Answers (.nakUnsynced raw) s (exec (.nakUnsynced raw) s) := by
  change Answers _ s (execNakUnsynced raw s)
  refine answers_onFrame fun hr frame => ?_
  cases frame with
  | nak cause n =>
    cases cause with
    | unsynced =>
      simp only
      split
      next hup => exact State.effect_enterDown hr hup (.inr ⟨raw, rfl⟩) rfl (.inl rfl)
      next => exact .acts hr s.acts_heard
    | gap | hold => exact .acts hr .refl
  | data | ack | sync => exact .acts hr .refl

theorem answers_sync (raw : List RxByte) (s : State) : Answers (.sync raw) s (exec (.sync raw) s) := by
  change Answers _ s (execSync raw s)
  refine answers_onFrame fun hr frame => ?_
  cases frame with
  | sync => exact .synced raw hr
  | data | ack | nak => exact .acts hr .refl

/-- A discard is recorded (R143). -/
theorem State.acts_discard (s : State) : State.Acts s { s with link := s.link.discard } :=
  State.acts_link (.records s.link .hunting s.link.counters.addDiscard) rfl rfl

theorem answers_frameDiscard (raw : List RxByte) (s : State) :
    Answers (.frameDiscard raw) s (exec (.frameDiscard raw) s) := by
  change Answers _ s (execFrameDiscard raw s)
  refine answers_of_acts ?_
  split
  next => exact s.acts_discard
  next => exact .refl

theorem answers_interByteTimeout (raw : List RxByte) (s : State) :
    Answers (.interByteTimeout raw) s (exec (.interByteTimeout raw) s) := by
  change Answers _ s (execInterByteTimeout raw s)
  refine answers_of_acts ?_
  split
  next => exact s.acts_discard
  next => exact .refl

/-! ### The link's timers, the transmitter, the scheduler, the restart guard -/

theorem answers_replayTimerExpiry (s : State) : Answers .replayTimerExpiry s (exec .replayTimerExpiry s) := by
  change Answers _ s (execReplayTimerExpiry s)
  refine answers_whenRunning fun hr => ?_
  split
  next h =>
    obtain ⟨ht, hup⟩ := h
    simp only
    split
    next hc =>
      rw [Link.replayAgain, Link.resendPass_eq_passed]
      refine .acts hr (State.acts_link (.again s.link s.control.replayTimeout hup ht hc) ?_ ?_)
      · exact Link.passed_state { s.link with replayCount := s.link.replayCount + 1 }
      · exact Link.map_passed _ (fun _ => rfl) { s.link with replayCount := s.link.replayCount + 1 }
    next => exact State.effect_enterDown hr hup (.inl rfl) rfl (.inr rfl)
  next => exact .acts hr .refl

theorem answers_holdPauseExpiry (s : State) : Answers .holdPauseExpiry s (exec .holdPauseExpiry s) := by
  change Answers _ s (execHoldPauseExpiry s)
  refine answers_of_acts ?_
  split
  next =>
    rw [Link.resendPass_eq_passed]
    exact State.acts_link (.holdEnds s.link) s.link.passed_state (s.link.map_passed _ fun _ => rfl)
  next => exact .refl

theorem answers_unsyncedNakSpacingExpiry (s : State) :
    Answers .unsyncedNakSpacingExpiry s (exec .unsyncedNakSpacingExpiry s) := by
  change Answers _ s (execUnsyncedNakSpacingExpiry s)
  exact answers_of_acts (State.acts_link (.spacingEnds s.link) rfl rfl)

/-- The host-loss action, connector after connector (R44). -/
theorem State.acts_powerOffAll (cs : List ConnId) (acc : State × ConnSet) :
    State.Acts acc.1 (cs.foldl powerOffOne acc).1 := by
  induction cs generalizing acc with
  | nil => exact .refl
  | cons c cs ih =>
    rw [List.foldl_cons]
    refine .trans ?_ (ih _)
    unfold powerOffOne
    split
    next => exact State.acts_onSite (f := fun t => t.powerOffNow .hostLoss) c (Site.powerOffNow_moves _ _)
    next => exact .refl

theorem answers_hostLossTimerExpiry (s : State) : Answers .hostLossTimerExpiry s (exec .hostLossTimerExpiry s) := by
  change Answers _ s (execHostLossTimerExpiry s)
  refine answers_of_acts ?_
  split
  next =>
    have hstopped : State.Acts s (s.withLink { s.link with hostLoss := none }) :=
      State.acts_link (.hostLossEnds s.link) rfl rfl
    cases ha : s.control.hostLossAction with
    | hold =>
      simp only [ha]
      exact hstopped.tail (.raise _ _)
    | powerOffAll =>
      simp only [ha]
      exact (hstopped.trans (State.acts_powerOffAll allConns (_, 0))).tail (.raise _ _)
  next => exact .refl

theorem Link.transmit_state (l : Link) : l.transmit.state = l.state := by
  unfold Link.transmit
  split
  next => rfl
  next =>
    split
    next => rfl
    next => split <;> (try split) <;> (try split) <;> rfl

theorem answers_transmitNextFrame (s : State) : Answers .transmitNextFrame s (exec .transmitNextFrame s) := by
  change Answers _ s (execTransmitNextFrame s)
  exact answers_of_acts
    (State.acts_link (.transmit s.link) s.link.transmit_state (s.link.map_transmit _ fun _ => rfl))

theorem answers_frameSchedule (s : State) : Answers .frameSchedule s (exec .frameSchedule s) := by
  change Answers _ s (execFrameSchedule s)
  exact answers_whenRunning .framed

theorem answers_restartGuardExpiry (s : State) : Answers .restartGuardExpiry s (exec .restartGuardExpiry s) := by
  change Answers _ s (execRestartGuardExpiry s)
  refine answers_whenRunning fun hr => ?_
  split
  next =>
    rw [State.beginReset_restart hr]
    exact .resetBegins s.link _ hr .refl (.inl rfl)
  next => exact .acts hr .refl

/-! ### Device resets -/

theorem answers_deviceResetBegin (source : ExternalReset) (s : State) :
    Answers (.deviceResetBegin source) s (exec (.deviceResetBegin source) s) := by
  refine ⟨s.beginReset (externalSource source), rfl, ?_⟩
  cases hr : s.resetting with
  | none =>
    rw [State.beginReset_of_running hr]
    exact .resetBegins s.link _ hr .refl (.inl rfl)
  | some r =>
    rw [State.beginReset_of_resetting hr]
    exact .resetJoined source r _ hr

theorem answers_deviceResetEnd (straps : Straps) (s : State) :
    Answers (.deviceResetEnd straps) s (exec (.deviceResetEnd straps) s) := by
  change Answers _ s (execDeviceResetEnd straps s)
  unfold execDeviceResetEnd
  cases hr : s.resetting with
  | none => exact ⟨s, rfl, .acts hr .refl⟩
  | some r => exact ⟨s.afterReset r straps, rfl, .resetEnds straps r hr⟩

/-! ### Requests of the part -/

theorem answers_unknownRequest (s : State) : Answers .unknownRequest s (exec .unknownRequest s) := by
  change Answers _ s (execUnknownRequest s)
  refine answers_of_acts ?_
  by_cases h : ∀ m rest, s.admissionQueue = m :: rest → isUnknown m = false
  · rw [State.takeMessage_other s _ _ h]
  · simp only [not_forall, Bool.not_eq_false] at h
    obtain ⟨m, rest, hq, ha⟩ := h
    rw [State.takeMessage_cons s _ _ m rest hq ha]
    exact State.acts_answered hq (.inr (by split <;> nofun))

theorem answers_getStatus (s : State) : Answers .getStatus s (exec .getStatus s) := by
  change Answers _ s (execGetStatus s)
  refine answers_of_acts (State.acts_admitPart fun m rest flag hq _ _ => ?_)
  have hanswered := State.acts_answered hq (code := codeGetStatus) (tag := tagOf m) (status := .ok)
    (body := .partStatus s.taken.partStatus) (.inl (by decide))
  exact hanswered.trans (State.acts_link (.records s.link s.link.rx _) rfl rfl)

theorem answers_setLink (s : State) : Answers .setLink s (exec .setLink s) := by
  change Answers _ s (execSetLink s)
  refine answers_of_acts (State.acts_admitPart fun m rest f hq _ hi => ?_)
  cases ha : lossActionOf f.action with
  | none => simp [SetLinkFields.inRange, ha] at hi
  | some action =>
    have hanswered := State.acts_answered hq (code := codeSetLink) (tag := tagOf m) (status := .ok) (body := .empty)
      (.inl (by decide))
    exact hanswered.tail (.control _ _ rfl)

/-- An admitted RESTART's action: the OK, the flag and the guard, and the reset at once with the link not UP (R181). -/
def State.restartAdmitted (s : State) (tag : Byte) : State :=
  let waiting :=
    { s.respond { code := codeRestart, tag, status := .ok, body := .empty } with
      restartPending := true
      control := { s.control with restartGuard := some Config.restartGuardMs } }
  if waiting.link.state = .up then waiting else waiting.beginReset .restart

theorem execRestart_eq (s : State) :
    execRestart s =
      s.whenRunning fun s =>
        s.admitPart (hasCode codeRestart) parseBare (fun _ => true) fun s tag _ => s.restartAdmitted tag := rfl

/-- An admitted RESTART waits in UP and takes effect elsewhere (R164, R181). -/
theorem State.restartAdmitted_taken {s : State} (hr : s.resetting = none) (tag : Byte) :
    s.taken.restartAdmitted tag =
      let u :=
        { s.answered 0x03 tag .ok .empty with
          restartPending := true
          control := { s.control with restartGuard := some 1000 } }
      if s.link.state = .up then u else u.restarted := by
  by_cases hup : s.link.state = .up
  · exact (if_pos hup).trans (if_pos hup).symm
  · refine (if_neg hup).trans (Eq.trans ?_ (if_neg hup).symm)
    exact State.beginReset_restart hr

theorem answers_restart (s : State) : Answers .restart s (exec .restart s) := by
  change Answers _ s (execRestart s)
  rw [execRestart_eq]
  refine answers_whenRunning fun hr => ?_
  obtain h | ⟨m, rest, hq, -, ⟨status, hs, h⟩ | ⟨fields, -, -, hc, h⟩⟩ :=
    s.admitPart_cases (hasCode codeRestart) parseBare (fun _ => true) fun s tag _ => s.restartAdmitted tag
  · rw [h]; exact .acts hr .refl
  · rw [h]; exact .acts hr (State.acts_answered hq (.inr hs))
  · rw [h, State.restartAdmitted_taken hr]
    simp only
    split
    next hup => exact .restartWaits m rest (tagOf m) hr hq (State.commonRefusal_eq_none.1 hc).2.1 hup
    next => exact .resetBegins s.link _ hr .refl (.inl rfl)

theorem answers_setSlotMap (s : State) : Answers .setSlotMap s (exec .setSlotMap s) := by
  change Answers _ s (execSetSlotMap s)
  refine answers_of_acts (State.acts_admitPart fun m rest entries hq _ hi => ?_)
  cases ht : tableOf entries with
  | none => simp [ht] at hi
  | some table =>
    have hcode : codeSetSlotMap ≠ codeRestart := by decide
    have hsame : s.taken.mapRefusal table = s.mapRefusal table := rfl
    simp only [hsame]
    cases hr : s.mapRefusal table with
    | some status => exact State.acts_answered hq (.inl hcode)
    | none =>
      have hq' : (s.remap table).admissionQueue = m :: rest := by rw [State.remap_eq]; exact hq
      have htaken : s.taken.remap table = (s.remap table).taken := by rw [State.remap_eq, State.remap_eq]; rfl
      simp only [htaken]
      exact .head (.remap s table hr) (State.acts_answered hq' (.inl hcode))

theorem answers_getSlotMap (s : State) : Answers .getSlotMap s (exec .getSlotMap s) := by
  change Answers _ s (execGetSlotMap s)
  exact answers_of_acts (State.acts_admitPart fun m rest _ hq _ _ => State.acts_answered hq (.inl (by decide)))

/-! ### Requests about one connector -/

theorem answers_slotConfigure (s : State) : Answers .slotConfigure s (exec .slotConfigure s) := by
  change Answers _ s (execSlotConfigure s)
  refine answers_of_acts (State.acts_admitSlot fun m rest slot bytes c hq hi => ?_)
  cases hd : SlotConfig.decode bytes with
  | none => simp [hd] at hi
  | some config =>
    refine State.acts_taken_onSite hq c (.single (.configure _ config ?_)) rfl
    unfold SlotConfig.decode at hd
    split at hd
    next =>
      split at hd
      next =>
        simp only at hd
        split at hd
        next hin => cases hd; exact hin
        next => cases hd
      next => cases hd
    next => cases hd

theorem answers_slotStatus (s : State) : Answers .slotStatus s (exec .slotStatus s) := by
  change Answers _ s (execSlotStatus s)
  exact answers_of_acts (State.acts_admitSlot fun m rest slot _ c hq _ =>
    State.acts_taken_onSite (f := id) hq c .refl rfl)

theorem answers_slotPowerOn (lines : BusLines) (s : State) :
    Answers (.slotPowerOn lines) s (exec (.slotPowerOn lines) s) := by
  change Answers _ s (execSlotPowerOn lines s)
  exact answers_of_acts (State.acts_admitSlot fun m rest slot _ c hq _ =>
    State.acts_taken_onSite (f := fun t => t.powerOn lines) hq c (Site.powerOn_moves _ lines) rfl)

theorem answers_slotPowerOffAbort (s : State) : Answers .slotPowerOffAbort s (exec .slotPowerOffAbort s) := by
  change Answers _ s (execSlotPowerOffAbort s)
  exact answers_of_acts (State.acts_admitSlot fun m rest slot _ c hq _ =>
    State.acts_taken_onSite (f := fun t => t.powerOffNow .hostOff) hq c (Site.powerOffNow_moves _ _) rfl)

theorem answers_slotPowerOffDrain (s : State) : Answers .slotPowerOffDrain s (exec .slotPowerOffDrain s) := by
  change Answers _ s (execSlotPowerOffDrain s)
  exact answers_of_acts (State.acts_admitSlot fun m rest slot _ c hq _ =>
    State.acts_taken_onSite (f := Site.powerOffDrain) hq c (Site.powerOffDrain_moves _) rfl)

theorem answers_slotClearFault (s : State) : Answers .slotClearFault s (exec .slotClearFault s) := by
  change Answers _ s (execSlotClearFault s)
  exact answers_of_acts (State.acts_admitSlot fun m rest slot _ c hq _ =>
    State.acts_taken_onSite (f := Site.clearFault) hq c (Site.clearFault_moves _) rfl)

theorem answers_attentionArm (s : State) : Answers .attentionArm s (exec .attentionArm s) := by
  change Answers _ s (execAttentionArm s)
  exact answers_of_acts (State.acts_admitSlot fun m rest slot _ c hq _ =>
    State.acts_taken_onSite (f := fun t => (t.setConn { t.conn with armed := true }).attentionCheck) hq c
      (.single (.arm _)) rfl)

/-! ### Bus-class requests and CANCEL -/

/-- What a command leaves is what its answer says. -/
theorem eq_of_next {s t : State} {a : Answer} {f : State → State} (hr : s.resetting = none) (ha : a = s.whenRunning f)
    (h : a = .next t) : f s = t := by
  rw [ha, State.whenRunning_running hr] at h
  exact Host.Outcome.next.inj h

theorem answers_postWrite (lines : BusLines) (s : State) :
    Answers (.postWrite lines) s (exec (.postWrite lines) s) := by
  change Answers _ s (execPostWrite lines s)
  refine answers_whenRunning fun hr => .acts hr (State.acts_admitBus (by decide) (lines := lines) ?_)
  exact fun m rest slot f hq ha hp => ⟨_, eq_of_next hr rfl (execPostWrite_of_parse lines hr hq ha hp)⟩

theorem answers_write (lines : BusLines) (s : State) : Answers (.write lines) s (exec (.write lines) s) := by
  change Answers _ s (execWrite lines s)
  refine answers_whenRunning fun hr => .acts hr (State.acts_admitBus (by decide) (lines := lines) ?_)
  exact fun m rest slot f hq ha hp => ⟨_, eq_of_next hr rfl (execWrite_of_parse lines hr hq ha hp)⟩

theorem answers_read (lines : BusLines) (s : State) : Answers (.read lines) s (exec (.read lines) s) := by
  change Answers _ s (execRead lines s)
  refine answers_whenRunning fun hr => .acts hr (State.acts_admitBus (by decide) (lines := lines) ?_)
  exact fun m rest slot f hq ha hp => ⟨_, eq_of_next hr rfl (execRead_of_parse lines hr hq ha hp)⟩

theorem answers_fence (lines : BusLines) (s : State) : Answers (.fence lines) s (exec (.fence lines) s) := by
  change Answers _ s (execFence lines s)
  refine answers_whenRunning fun hr => .acts hr (State.acts_admitBus (by decide) (lines := lines) ?_)
  exact fun m rest slot f hq ha hp => ⟨_, eq_of_next hr rfl (execFence_of_parse lines hr hq ha hp)⟩

theorem answers_pulseReset (lines : BusLines) (s : State) :
    Answers (.pulseReset lines) s (exec (.pulseReset lines) s) := by
  change Answers _ s (execPulseReset lines s)
  refine answers_whenRunning fun hr => .acts hr (State.acts_admitBus (by decide) (lines := lines) ?_)
  exact fun m rest slot f hq ha hp => ⟨_, eq_of_next hr rfl (execPulseReset_of_parse lines hr hq ha hp)⟩

theorem answers_clearBus (lines : BusLines) (s : State) : Answers (.clearBus lines) s (exec (.clearBus lines) s) := by
  change Answers _ s (execClearBus lines s)
  refine answers_whenRunning fun hr => .acts hr (State.acts_admitBus (by decide) (lines := lines) ?_)
  exact fun m rest slot f hq ha hp => ⟨_, eq_of_next hr rfl (execClearBus_of_parse lines hr hq ha hp)⟩

theorem answers_cancel (lines : BusLines) (s : State) : Answers (.cancel lines) s (exec (.cancel lines) s) := by
  change Answers _ s (execCancel lines s)
  refine answers_of_acts (State.acts_admitPart fun m rest target hq _ _ => ?_)
  have hholder : s.taken.tagHolder target = s.tagHolder target := rfl
  simp only [hholder]
  cases s.tagHolder target with
  | some c => exact State.acts_cancel hq c (tagOf m) target lines
  | none => exact State.acts_answered hq (code := codeCancel) (.inl (by decide))

/-! ### Inputs -/

theorem answers_presenceInputChange (c : ConnId) (asserted : Bool) (s : State) :
    Answers (.presenceInputChange c asserted) s (exec (.presenceInputChange c asserted) s) := by
  change Answers _ s (execPresenceInputChange c asserted s)
  exact answers_inputChange (fun t => .single (.presence t asserted)) ⟨_, _, _, _, rfl⟩

theorem answers_attnInputChange (c : ConnId) (asserted : Bool) (s : State) :
    Answers (.attnInputChange c asserted) s (exec (.attnInputChange c asserted) s) := by
  change Answers _ s (execAttnInputChange c asserted s)
  exact answers_inputChange (fun t => .single (.attention t asserted)) ⟨_, _, _, _, rfl⟩

theorem answers_ocInputChange (c : ConnId) (asserted : Bool) (s : State) :
    Answers (.ocInputChange c asserted) s (exec (.ocInputChange c asserted) s) := by
  change Answers _ s (execOcInputChange c asserted s)
  exact answers_inputChange
    (fun t => Site.reviewFault_moves (oc := asserted) (pg := t.conn.pgAsserted) (inrush := t.conn.inrush) rfl (.inl rfl))
    ⟨_, _, _, _, rfl⟩

theorem answers_pgInputChange (c : ConnId) (asserted : Bool) (lines : BusLines) (s : State) :
    Answers (.pgInputChange c asserted lines) s (exec (.pgInputChange c asserted lines) s) := by
  change Answers _ s (execPgInputChange c asserted lines s)
  exact answers_inputChange (fun t => t.pgInput_moves asserted lines) ⟨_, _, _, _, rfl⟩

/-! ### Every command -/

/-- Every command answers a next state, and what it does is one of the effects. -/
theorem exec_effect (i : Instr) (s : State) : Answers i s (exec i s) := by
  cases i with
  | deviceResetBegin source => exact answers_deviceResetBegin source s
  | deviceResetEnd straps => exact answers_deviceResetEnd straps s
  | presenceInputChange c asserted => exact answers_presenceInputChange c asserted s
  | presenceDebounceExpiry c lines => exact answers_presenceDebounceExpiry c lines s
  | ocInputChange c asserted => exact answers_ocInputChange c asserted s
  | pgInputChange c asserted lines => exact answers_pgInputChange c asserted lines s
  | inrushTimerExpiry c => exact answers_inrushTimerExpiry c s
  | qualifyTimerExpiry c => exact answers_qualifyTimerExpiry c s
  | pgDeadlineExpiry c => exact answers_pgDeadlineExpiry c s
  | retryDelayExpiry c lines => exact answers_retryDelayExpiry c lines s
  | recurrenceWindowExpiry c => exact answers_recurrenceWindowExpiry c s
  | attnInputChange c asserted => exact answers_attnInputChange c asserted s
  | attentionSteady c => exact answers_attentionSteady c s
  | dataFrame raw => exact answers_dataFrame raw s
  | ackFrame raw => exact answers_ackFrame raw s
  | nakGap raw => exact answers_nakGap raw s
  | nakHold raw => exact answers_nakHold raw s
  | nakUnsynced raw => exact answers_nakUnsynced raw s
  | sync raw => exact answers_sync raw s
  | frameDiscard raw => exact answers_frameDiscard raw s
  | interByteTimeout raw => exact answers_interByteTimeout raw s
  | replayTimerExpiry => exact answers_replayTimerExpiry s
  | holdPauseExpiry => exact answers_holdPauseExpiry s
  | unsyncedNakSpacingExpiry => exact answers_unsyncedNakSpacingExpiry s
  | hostLossTimerExpiry => exact answers_hostLossTimerExpiry s
  | transmitNextFrame => exact answers_transmitNextFrame s
  | frameSchedule => exact answers_frameSchedule s
  | restartGuardExpiry => exact answers_restartGuardExpiry s
  | unknownRequest => exact answers_unknownRequest s
  | getStatus => exact answers_getStatus s
  | setLink => exact answers_setLink s
  | restart => exact answers_restart s
  | setSlotMap => exact answers_setSlotMap s
  | getSlotMap => exact answers_getSlotMap s
  | slotConfigure => exact answers_slotConfigure s
  | slotStatus => exact answers_slotStatus s
  | slotPowerOn lines => exact answers_slotPowerOn lines s
  | slotPowerOffAbort => exact answers_slotPowerOffAbort s
  | slotPowerOffDrain => exact answers_slotPowerOffDrain s
  | slotClearFault => exact answers_slotClearFault s
  | attentionArm => exact answers_attentionArm s
  | postWrite lines => exact answers_postWrite lines s
  | write lines => exact answers_write lines s
  | read lines => exact answers_read lines s
  | fence lines => exact answers_fence lines s
  | pulseReset lines => exact answers_pulseReset lines s
  | clearBus lines => exact answers_clearBus lines s
  | cancel lines => exact answers_cancel lines s
  | byteCompleted c value => exact answers_byteCompleted c value s
  | attemptOutcome c outcome lines => exact answers_attemptOutcome c outcome lines s
  | retryIntervalExpiry tag lines => exact answers_retryIntervalExpiry tag lines s
  | deadlineExpiry tag lines => exact answers_deadlineExpiry tag lines s
  | stretchLimit c => exact answers_stretchLimit c s
  | busClearEnd c data after lines => exact answers_busClearEnd c data after lines s
  | abortEnd c lines => exact answers_abortEnd c lines s
  | pulseTimerExpiry c lines => exact answers_pulseTimerExpiry c lines s

/-- The effect of a command, by the state it leaves. -/
theorem effect_of_exec {i : Instr} {s t : State} (h : exec i s = .next t) : Effect i s t := by
  obtain ⟨u, hu, he⟩ := exec_effect i s
  rw [h] at hu
  rwa [Host.Outcome.next.inj hu]

end Sys2Proof.Machine
end

section
/-! PROOFS. What every act keeps, and the obligations on the Event Queue, the order of responses, the link state, the
replay window, the link's timers and flags, and a pending RESTART (O1, O2, O4, O13, O14, O15, O17, O19). -/

namespace Sys2Proof.Machine

/-! ### What an act leaves alone -/

/-- What no act changes. -/
structure State.Settled (s t : State) : Prop where
  resetting : t.resetting = s.resetting
  pending : t.pending = s.pending
  ticks : t.ticks = s.ticks
  restartPending : t.restartPending = s.restartPending
  restartGuard : t.control.restartGuard = s.control.restartGuard
  linkState : t.link.state = s.link.state
  linkOks : t.link.restartOks = s.link.restartOks
  strapDisabled : t.strapDisabled = s.strapDisabled

theorem State.Settled.refl (s : State) : State.Settled s s := ⟨rfl, rfl, rfl, rfl, rfl, rfl, rfl, rfl⟩

theorem State.Settled.trans {s t u : State} (h : State.Settled s t) (h' : State.Settled t u) : State.Settled s u where
  resetting := h'.resetting.trans h.resetting
  pending := h'.pending.trans h.pending
  ticks := h'.ticks.trans h.ticks
  restartPending := h'.restartPending.trans h.restartPending
  restartGuard := h'.restartGuard.trans h.restartGuard
  linkState := h'.linkState.trans h.linkState
  linkOks := h'.linkOks.trans h.linkOks
  strapDisabled := h'.strapDisabled.trans h.strapDisabled

theorem State.Act.settled {s t : State} (h : State.Act s t) : State.Settled s t := by
  cases h with
  | move | raise | answer | admission => exact ⟨rfl, rfl, rfl, rfl, rfl, rfl, rfl, rfl⟩
  | link l h hs ho => exact ⟨rfl, rfl, rfl, rfl, rfl, hs, ho, rfl⟩
  | control k h => exact ⟨rfl, rfl, rfl, rfl, h, rfl, rfl, rfl⟩
  | remap table => rw [State.remap_eq]; exact ⟨rfl, rfl, rfl, rfl, rfl, rfl, rfl, rfl⟩

theorem State.Acts.settled {s t : State} (h : State.Acts s t) : State.Settled s t := by
  induction h with
  | refl => exact .refl s
  | tail _ h ih => exact ih.trans h.settled

/-- What every act keeps, acts keep. -/
theorem State.Acts.keep {P : State → Prop} (hP : ∀ s t, State.Act s t → P s → P t) {s t : State} (h : State.Acts s t)
    (hs : P s) : P t := by
  induction h with
  | refl => exact hs
  | tail _ h ih => exact hP _ _ h ih

/-- A framing: nothing, or one message into the replay buffer (R132). -/
theorem State.frameOne_cases (s : State) :
    s.frameOne = s ∨
      (s.link.hasRoom = true ∧
        ((∃ e rest, s.out.events = e :: rest ∧ (s.out.responses = [] ∨ s.out.consecutive = 4) ∧
            s.frameOne =
              { s with out := s.out.framedEvent, link := s.link.frameNew e.encode false s.control.replayTimeout }) ∨
          ∃ r rest, s.out.responses = r :: rest ∧ (s.out.events = [] ∨ s.out.consecutive ≠ 4) ∧
            s.frameOne =
              { s with
                out := s.out.framedResponse
                link := s.link.frameNew r.encode r.isRestartOk s.control.replayTimeout })) := by
  by_cases hroom : s.link.hasRoom = true
  · by_cases hnext : s.out.eventNext = true
    · cases he : s.out.events with
      | nil => exact .inl (by simp [State.frameOne, hroom, hnext, he])
      | cons e rest =>
        refine .inr ⟨hroom, .inl ⟨e, rest, rfl, ?_, by simp [State.frameOne, hroom, hnext, he]⟩⟩
        simpa [Outbound.eventNext, he, Config.consecutiveMax] using hnext
    · cases hq : s.out.responses with
      | nil => exact absurd (by simp [Outbound.eventNext, hq]) hnext
      | cons r rest =>
        refine .inr ⟨hroom, .inr ⟨r, rest, rfl, ?_, by simp [State.frameOne, hroom, hnext, hq]⟩⟩
        have h : s.out.events = [] ∨ ¬s.out.consecutive = 4 := by
          simp only [Outbound.eventNext, hq, Bool.not_eq_true, Bool.or_eq_false_iff, Bool.and_eq_false_iff] at hnext
          obtain h | h := hnext.2
          · exact .inl (by simpa using h)
          · exact .inr (by simpa [Config.consecutiveMax] using h)
        exact h
  · exact .inl (by simp [State.frameOne, hroom])

/-- A framing leaves the link or gives it a frame. -/
theorem State.frameOne_link (s : State) :
    s.frameOne.link = s.link ∨
      (s.link.hasRoom = true ∧
        ∃ payload restartOk, s.frameOne.link = s.link.frameNew payload restartOk s.control.replayTimeout) := by
  obtain h | ⟨hroom, ⟨_, _, -, -, h⟩ | ⟨_, _, -, -, h⟩⟩ := s.frameOne_cases
  · exact .inl (by rw [h])
  · exact .inr ⟨hroom, _, _, by rw [h]⟩
  · exact .inr ⟨hroom, _, _, by rw [h]⟩

/-- Settles O2: no effect touches the queue of commands or the count of ticks. -/
theorem everyCommandAnswersNext : Obligations.EveryCommandAnswersNext := by
  unfold Obligations.EveryCommandAnswersNext
  intro i s
  obtain ⟨t, ht, he⟩ := exec_effect i s
  refine ⟨t, ht, ?_⟩
  cases he with
  | acts _ h => exact ⟨h.settled.pending, h.settled.ticks⟩
  | framed =>
    obtain h | ⟨-, ⟨_, _, -, -, h⟩ | ⟨_, _, -, -, h⟩⟩ := s.frameOne_cases <;> rw [h] <;> exact ⟨rfl, rfl⟩
  | held | levels | accepted | synced | wentDown | restartWaits | resetBegins | resetJoined | resetEnds =>
    exact ⟨rfl, rfl⟩

/-- Settles O1: by the definitions of a step and of a tick. -/
theorem stepRunsFrontCommand : Obligations.StepRunsFrontCommand := by
  unfold Obligations.StepRunsFrontCommand
  refine ⟨fun i rest s => rfl, fun s h => ?_⟩
  calc
    step s = .next s.tick := by rw [step, h]
    _ = _ := rfl

/-- A step is a command's effect, or a tick of the part. -/
theorem step_cases {s t : State} (h : step s = .next t) :
    (∃ i rest, s.pending = i :: rest ∧ Effect i { s with pending := rest } t) ∨
      t = s.tickWith (Config.busReading s.ticks) := by
  unfold step at h
  cases hp : s.pending with
  | nil =>
    rw [hp] at h
    exact .inr (Host.Outcome.next.inj h).symm
  | cons i rest =>
    rw [hp] at h
    exact .inl ⟨i, rest, rfl, effect_of_exec h⟩

/-! ### The Outbound Unit -/

/-- A chain of raised events is reports. -/
theorem Outbound.reports_foldl {α : Type} {f : Outbound → α → Outbound} (hf : ∀ o a, Outbound.Reports o (f o a))
    (as : List α) (o : Outbound) : Outbound.Reports o (as.foldl f o) := by
  induction as generalizing o with
  | nil => exact .refl
  | cons a as ih => exact (hf o a).trans (ih _)

theorem Outbound.remapped_reports (o : Outbound) (c : ConnId) (k : Connector) (before after : Nat) :
    Outbound.Reports o (o.remapped c k before after) := by
  unfold Outbound.remapped
  split
  next => exact .single (.event o _)
  next =>
    split
    next => exact .single (.event o _)
    next => exact .refl

/-- What an act brings the Outbound Unit is reports (R121, R123). -/
theorem State.Act.reports {s t : State} (h : State.Act s t) : Outbound.Reports s.out t.out := by
  cases h with
  | move c u h => exact h.reports
  | raise e => exact .single (.event s.out e)
  | answer m rest r hq hr => exact .single (.response s.out r hr)
  | admission r m rest c tag slot hq hr hc =>
    change Outbound.Reports s.out (r.outAfter s c tag slot)
    unfold BusRequest.outAfter
    split
    next => exact .single (.response s.out _ rfl)
    next => exact .refl
  | link | control => exact .refl
  | remap table =>
    rw [State.remap_eq]
    exact Outbound.reports_foldl (f := fun o c => o.remapped c s.conns[c] (s.slotOf c) (slotIn table c))
      (fun o c => o.remapped_reports c s.conns[c] (s.slotOf c) (slotIn table c)) allConns s.out

theorem State.Acts.reports {s t : State} (h : State.Acts s t) : Outbound.Reports s.out t.out := by
  induction h with
  | refl => exact .refl
  | tail _ h ih => exact ih.trans h.reports

/-! ### The Event Queue (R123) -/

theorem Event.absorb_slotState (r old : SlotStateRecord) :
    Event.absorb r (.slotState old) = if old.conn = r.conn then .slotState (old.merge r) else .slotState old := rfl

theorem Event.absorb_isStateOf (r : SlotStateRecord) (c : ConnId) (e : Event) :
    (e.absorb r).isStateOf c = e.isStateOf c := by
  cases e with
  | slotState old => rw [Event.absorb_slotState]; split <;> rfl
  | _ => rfl

theorem Event.absorb_isAttentionOf (r : SlotStateRecord) (c : ConnId) (e : Event) :
    (e.absorb r).isAttentionOf c = e.isAttentionOf c := by
  cases e with
  | slotState old => rw [Event.absorb_slotState]; split <;> rfl
  | _ => rfl

/-- A pending event takes a place for its kind and connector only where none is pending. -/
theorem Outbound.Bounded.place {o : Outbound} (h : o.Bounded) (e : Event)
    (hs : ∀ c, e.isStateOf c = true → o.events.any (Event.isStateOf c) = false)
    (ha : ∀ c, e.isAttentionOf c = true → o.events.any (Event.isAttentionOf c) = false) : (o.place e).Bounded := by
  obtain ⟨hlen, hlost, hcons, hcount⟩ := h
  have hnew : ∀ p : Event → Bool, (p e = true → o.events.any p = false) → o.events.countP p ≤ 1 →
      (o.events ++ [e]).countP p ≤ 1 := by
    intro p hp hle
    rw [List.countP_append, List.countP_singleton]
    split
    next he =>
      have : o.events.countP p = 0 := by
        rw [List.countP_eq_zero]
        exact List.any_eq_false.1 (hp he)
      omega
    next => exact hle
  unfold Outbound.place
  split
  next hlt =>
    refine ⟨?_, hlost, hcons, fun c => ⟨hnew _ (hs c) (hcount c).1, hnew _ (ha c) (hcount c).2⟩⟩
    have hlt' : o.events.length < 32 := hlt
    rw [List.length_append, List.length_singleton]
    exact hlt'
  next => exact ⟨hlen, bump_le _ _, hcons, hcount⟩

/-- Raising an event keeps the bounds (R123, R130). -/
theorem Outbound.Bounded.raise {o : Outbound} (h : o.Bounded) (e : Event) : (o.raise e).Bounded := by
  unfold Outbound.raise
  split
  next r =>
    split
    next =>
      obtain ⟨hlen, hlost, hcons, hcount⟩ := h
      refine ⟨by simpa using hlen, hlost, hcons, fun c => ?_⟩
      simp only [List.countP_map, Function.comp_def, Event.absorb_isStateOf, Event.absorb_isAttentionOf]
      exact hcount c
    next hn =>
      refine h.place _ (fun c hc => ?_) nofun
      have hc : r.conn = c := beq_iff_eq.1 hc
      rw [← hc]
      exact eq_false_of_ne_true hn
  next c slot =>
    split
    next => exact h
    next hn =>
      refine h.place _ nofun fun d hd => ?_
      have hd : c = d := beq_iff_eq.1 hd
      rw [← hd]
      exact eq_false_of_ne_true hn
  all_goals exact h.place _ nofun nofun

theorem Outbound.Reports.bounded {o o' : Outbound} (h : Outbound.Reports o o') (hb : o.Bounded) : o'.Bounded := by
  induction h with
  | refl => exact hb
  | tail _ h ih =>
    cases h with
    | event e => exact ih.raise e
    | response r => exact ih

/-- An event framed frees its place, which an EVENTS_LOST may take (R131). -/
theorem Outbound.Bounded.framedEvent {o : Outbound} (h : o.Bounded) {e : Event} {rest : List Event}
    (he : o.events = e :: rest) : o.framedEvent.Bounded := by
  obtain ⟨hlen, hlost, hcons, hcount⟩ := h
  have hrest : ∀ p : Event → Bool, o.events.countP p ≤ 1 → rest.countP p ≤ 1 := by
    intro p hp
    rw [he, List.countP_cons] at hp
    omega
  rw [he, List.length_cons] at hlen
  unfold Outbound.framedEvent
  rw [he, List.tail_cons]
  split
  next =>
    exact ⟨Nat.le_of_succ_le hlen, hlost, Nat.zero_le _, fun c => ⟨hrest _ (hcount c).1, hrest _ (hcount c).2⟩⟩
  next =>
    refine ⟨?_, Nat.zero_le _, Nat.zero_le _, fun c => ?_⟩
    · rw [List.length_append, List.length_singleton]; exact hlen
    · rw [List.countP_append, List.countP_append]
      exact ⟨hrest _ (hcount c).1, hrest _ (hcount c).2⟩

theorem Effect.bounded {i : Instr} {s t : State} (he : Effect i s t) (hb : s.out.Bounded) : t.out.Bounded := by
  cases he with
  | acts _ h => exact h.reports.bounded hb
  | held | levels | accepted | synced | wentDown | resetJoined | restartWaits => exact hb
  | framed =>
    obtain h | ⟨-, ⟨e, es, hev, -, h⟩ | ⟨_, _, -, -, h⟩⟩ := s.frameOne_cases
    · rw [h]; exact hb
    · rw [h]; exact hb.framedEvent hev
    · rw [h]
      obtain ⟨hlen, hlost, -, hcount⟩ := hb
      exact ⟨hlen, hlost, bump_le _ _, hcount⟩
  | resetBegins =>
    obtain ⟨-, hlost, hcons, -⟩ := hb
    exact ⟨Nat.zero_le _, hlost, hcons, fun c => ⟨Nat.zero_le _, Nat.zero_le _⟩⟩
  | resetEnds =>
    exact ⟨Nat.succ_le_succ (Nat.zero_le _), Nat.zero_le _, Nat.zero_le _, fun c => ⟨Nat.zero_le _, Nat.zero_le _⟩⟩

/-- Settles O4: every effect keeps the bounds, and a tick leaves the unit alone (R119, R123, R130, R133). -/
theorem stepKeepsEventQueueBounds : Obligations.StepKeepsEventQueueBounds := by
  unfold Obligations.StepKeepsEventQueueBounds
  intro s t hb hstep
  obtain ⟨i, rest, -, he⟩ | rfl := step_cases hstep
  · exact he.bounded hb
  · exact hb

/-! ### Responses (R121) -/

theorem Outbound.Reports.responses {o o' : Outbound} (h : Outbound.Reports o o') :
    ∃ added, o'.responses = o.responses ++ added ∧ ∀ r ∈ added, r.isRestartOk = false := by
  induction h with
  | refl => exact ⟨[], (List.append_nil _).symm, by simp⟩
  | tail _ h ih =>
    obtain ⟨added, ha, hr⟩ := ih
    cases h with
    | event e => exact ⟨added, by rw [Outbound.raise_responses, ha], hr⟩
    | response r hnew =>
      refine ⟨added ++ [r], by simp [Outbound.respond, ha], fun x hx => ?_⟩
      rcases List.mem_append.1 hx with hx | hx
      · exact hr x hx
      · rw [List.mem_singleton.1 hx]; exact hnew

/-- Settles O17: responses join at the tail, and a framing takes the head or none (R121, R134). -/
theorem responsesKeepTheirOrder : Obligations.ResponsesKeepTheirOrder := by
  unfold Obligations.ResponsesKeepTheirOrder
  intro i s t hs ht hexec
  refine ⟨fun hi => ?_, fun hi => ?_⟩
  · cases effect_of_exec hexec with
    | acts _ h =>
      obtain ⟨added, ha, -⟩ := h.reports.responses
      exact ⟨added, ha.symm⟩
    | framed => exact absurd rfl hi
    | held | levels | accepted | synced | wentDown => exact List.prefix_refl _
    | restartWaits => exact List.prefix_append _ _
    | resetBegins | resetJoined => cases ht
    | resetEnds straps r hr => rw [hs] at hr; cases hr
  · subst hi
    have hframe : execFrameSchedule s = .next s.frameOne := State.whenRunning_running hs _
    obtain rfl := Host.Outcome.next.inj (hframe.symm.trans hexec)
    obtain h | ⟨-, ⟨_, _, -, -, h⟩ | ⟨_, _, -, -, h⟩⟩ := s.frameOne_cases <;> rw [h]
    · exact .inl rfl
    · refine .inl ?_
      unfold Outbound.framedEvent
      split <;> rfl
    · exact .inr rfl

/-! ### The link state -/

theorem Link.synchronise_state (l : Link) (replayTimeout : Nat) : (l.synchronise replayTimeout).state = .up := by
  rw [Link.synchronise, Link.resendPass_eq_passed, Link.passed_state]

/-- Settles O19: the link state stands under every other command (R139, R146, R161, R180). -/
theorem upIsEnteredAndLeftByNamedCommands : Obligations.UpIsEnteredAndLeftByNamedCommands := by
  unfold Obligations.UpIsEnteredAndLeftByNamedCommands
  intro i s t hexec
  have hsame : t.link.state = s.link.state →
      (s.link.state ≠ .up → t.link.state = .up → ∃ raw, i = .sync raw) ∧
        (s.link.state = .up → t.link.state ≠ .up →
          i = .replayTimerExpiry ∨ (∃ raw, i = .nakUnsynced raw) ∨ ∃ straps, i = .deviceResetEnd straps) :=
    fun h => ⟨fun hs ht => absurd (h ▸ ht) hs, fun hs ht => absurd (h ▸ hs) ht⟩
  have hdown : i = .replayTimerExpiry ∨ (∃ raw, i = .nakUnsynced raw) → t.link.state = .down →
      (s.link.state ≠ .up → t.link.state = .up → ∃ raw, i = .sync raw) ∧
        (s.link.state = .up → t.link.state ≠ .up →
          i = .replayTimerExpiry ∨ (∃ raw, i = .nakUnsynced raw) ∨ ∃ straps, i = .deviceResetEnd straps) :=
    fun hi hd => ⟨fun _ ht => (by rw [hd] at ht; cases ht), fun _ _ => hi.imp id .inl⟩
  cases effect_of_exec hexec with
  | acts _ h => exact hsame h.settled.linkState
  | held | levels | accepted | restartWaits | resetJoined => exact hsame rfl
  | framed =>
    obtain h | ⟨-, _, _, h⟩ := s.frameOne_link
    · exact hsame (by rw [h])
    · exact hsame (by rw [h]; rfl)
  | synced raw => exact ⟨fun _ _ => ⟨raw, rfl⟩, fun _ ht => absurd (Link.synchronise_state _ _) ht⟩
  | wentDown l hi _ _ _ _ hs => exact hdown hi hs
  | resetBegins l sources _ _ hs =>
    obtain hs | ⟨hd, hi⟩ := hs
    · exact hsame hs
    · exact hdown hi hd
  | resetEnds straps => exact ⟨fun _ ht => (nomatch ht), fun _ _ => .inr (.inr ⟨straps, rfl⟩)⟩

/-! ### The link under every effect -/

/-- What an act does to the link is a rule or nothing. -/
theorem State.Act.linkRules {s t : State} (h : State.Act s t) : Link.Rules s.link t.link := by
  cases h with
  | move | raise | answer | admission | control => exact .refl
  | link l h => exact .single h
  | remap table => rw [State.remap_eq]

theorem State.Acts.linkRules {s t : State} (h : State.Acts s t) : Link.Rules s.link t.link := by
  induction h with
  | refl => exact .refl
  | tail _ h ih => exact ih.trans h.linkRules

/-- What a step does to the link: rules, or the beginning or the end of a device reset after rules. -/
theorem step_link {s t : State} (h : step s = .next t) :
    Link.Rules s.link t.link ∨ (∃ l, Link.Rules s.link l ∧ t.link = l.beginReset) ∨ t.link = Link.initial := by
  obtain ⟨i, rest, -, he⟩ | rfl := step_cases h
  · have hheard : Link.Rules s.link { s.link with rx := .hunting } := .single (.records s.link .hunting s.link.counters)
    cases he with
    | acts _ h => exact .inl h.linkRules
    | held | levels | restartWaits | resetJoined => exact .inl .refl
    | accepted raw payload _ hup => exact .inl (hheard.tail (.accept _ hup))
    | framed =>
      obtain h | ⟨hroom, payload, restartOk, h⟩ := State.frameOne_link { s with pending := rest } <;> rw [h]
      · exact .inl .refl
      · exact .inl (.single (.frameNew s.link payload restartOk _ hroom))
    | synced => exact .inl (hheard.tail (.synchronise _ _))
    | wentDown l _ _ _ _ hl => exact .inl hl
    | resetBegins l _ _ hl => exact .inr (.inl ⟨l, hl, rfl⟩)
    | resetEnds => exact .inr (.inr rfl)
  · exact .inl .refl

theorem Link.Rules.window {l l' : Link} (h : Link.Rules l l') (hw : l.WindowAgrees) : l'.WindowAgrees := by
  induction h with
  | refl => exact hw
  | tail _ h ih => exact h.window ih

theorem Link.Rules.tidy {l l' : Link} (h : Link.Rules l l') (ht : l.Tidy) : l'.Tidy := by
  induction h with
  | refl => exact ht
  | tail _ h ih => exact h.tidy ih

/-- No frames are a window. -/
theorem Link.windowAgrees_of_empty {l : Link} (h : l.replay = []) : l.WindowAgrees := by
  refine ⟨by rw [h]; exact Nat.zero_le _, fun i hi => ?_⟩
  rw [h] at hi
  exact absurd hi (Nat.not_lt_zero i)

/-- Settles O13: every rule keeps the window, and a device reset leaves no frames (R154, R178). -/
theorem stepKeepsReplayWindow : Obligations.StepKeepsReplayWindow := by
  unfold Obligations.StepKeepsReplayWindow
  intro s t hw hstep
  obtain h | ⟨l, -, h⟩ | h := step_link hstep
  · exact h.window hw
  · rw [h]; exact Link.windowAgrees_of_empty rfl
  · rw [h]; exact Link.windowAgrees_of_empty rfl

theorem Link.tidy_initial : Link.initial.Tidy := by
  refine ⟨?_, ?_, ?_, ?_, ?_, ?_, ?_, ?_, ?_, ?_⟩ <;> simp [Link.initial]

/-- Settles O14: every rule keeps what runs and waits, and so do a device reset's beginning and end (R139, R178, R180). -/
theorem stepKeepsLinkTidy : Obligations.StepKeepsLinkTidy := by
  unfold Obligations.StepKeepsLinkTidy
  intro s t ht hstep
  obtain h | ⟨l, hl, h⟩ | h := step_link hstep
  · exact h.tidy ht
  · rw [h]; exact (hl.tidy ht).beginReset
  · rw [h]; exact Link.tidy_initial

/-! ### A pending RESTART -/

theorem State.restartOks_eq (s : State) :
    s.restartOks = s.out.responses.countP Response.isRestartOk + s.link.restartOks := rfl

/-- Reports bring no RESTART's OK. -/
theorem Outbound.Reports.restartOks {o o' : Outbound} (h : Outbound.Reports o o') :
    o'.responses.countP Response.isRestartOk = o.responses.countP Response.isRestartOk := by
  obtain ⟨added, ha, hr⟩ := h.responses
  have hnone : added.countP Response.isRestartOk = 0 := List.countP_eq_zero.2 fun r hm => by simp [hr r hm]
  rw [ha, List.countP_append, hnone, Nat.add_zero]

/-- A part with the same flag, guard and OKs waiting, in UP where it was in UP. -/
theorem State.RestartAgrees.congr {s t : State} (h : s.RestartAgrees) (hp : t.restartPending = s.restartPending)
    (hg : t.control.restartGuard = s.control.restartGuard) (hl : s.link.state = .up → t.link.state = .up)
    (ho : t.restartOks = s.restartOks) : t.RestartAgrees := by
  obtain ⟨hguard, hup, hcount⟩ := h
  exact ⟨by rw [hp, hg, hguard], fun hx => hl (hup (hp ▸ hx)), by rw [ho, hp, hcount]⟩

/-- A framing carries a RESTART's OK from the Response Queue into the replay buffer (R134). -/
theorem State.frameOne_restartOks (s : State) : s.frameOne.restartOks = s.restartOks := by
  obtain h | ⟨-, ⟨e, rest, -, -, h⟩ | ⟨r, rest, hq, -, h⟩⟩ := s.frameOne_cases <;> rw [h]
  · have hres : s.out.framedEvent.responses = s.out.responses := by
      unfold Outbound.framedEvent
      split <;> rfl
    simp [State.restartOks, Link.frameNew, hres]
  · simp [State.restartOks, Link.frameNew, Outbound.framedResponse, hq, List.countP_cons]
    omega

/-- Acts and framings leave the flag, the guard and the number of OKs waiting; a RESTART sets all three; a device reset
clears them (R69, R164, R181). -/
theorem Effect.restartAgrees {i : Instr} {s t : State} (he : Effect i s t) (hs : s.RestartAgrees) :
    t.RestartAgrees := by
  cases he with
  | acts _ h =>
    have hset := h.settled
    refine hs.congr hset.restartPending hset.restartGuard hset.linkState.trans ?_
    rw [State.restartOks_eq, h.reports.restartOks, hset.linkOks]
    rfl
  | held | levels | accepted | resetJoined => exact hs
  | framed =>
    have hctl : s.frameOne.restartPending = s.restartPending ∧ s.frameOne.control = s.control := by
      obtain h | ⟨-, ⟨_, _, -, -, h⟩ | ⟨_, _, -, -, h⟩⟩ := s.frameOne_cases <;> rw [h] <;> exact ⟨rfl, rfl⟩
    refine hs.congr hctl.1 (by rw [hctl.2]) (fun hup => ?_) s.frameOne_restartOks
    obtain h | ⟨-, _, _, h⟩ := s.frameOne_link <;> rw [h] <;> exact hup
  | synced raw =>
    refine hs.congr rfl rfl (fun _ => Link.synchronise_state _ _) ?_
    refine congrArg (s.out.responses.countP Response.isRestartOk + ·) (Link.restartOks_congr ?_)
    exact (Link.map_synchronise (fun f => f.restartOk) (fun _ => rfl) s.heard.link _).trans
      (map_renumber (fun f => f.restartOk) (fun _ _ => rfl) 0 s.link.replay)
  | wentDown l _ _ hp _ _ _ ho =>
    obtain ⟨hguard, -, hcount⟩ := hs
    refine ⟨hguard, fun hx => absurd (hp.symm.trans hx) nofun, ?_⟩
    rw [State.restartOks_eq]
    exact (congrArg (_ + ·) ho).trans hcount
  | restartWaits m rest' tag _ _ hp hup =>
    obtain ⟨-, -, hcount⟩ := hs
    rw [hp, State.restartOks_eq] at hcount
    refine ⟨rfl, fun _ => hup, ?_⟩
    change (s.out.responses ++ [_]).countP Response.isRestartOk + s.link.restartOks = 1
    rw [List.countP_append]
    change _ + 1 + _ = 1
    simp only [Bool.false_eq_true, if_false] at hcount
    omega
  | resetBegins | resetEnds => exact ⟨rfl, nofun, rfl⟩

/-- Settles O15: every effect keeps what a pending RESTART waits for, and a tick touches none of it. -/
theorem stepKeepsRestartWait : Obligations.StepKeepsRestartWait := by
  unfold Obligations.StepKeepsRestartWait
  intro s t hs hstep
  obtain ⟨i, rest, -, he⟩ | rfl := step_cases hstep
  · exact he.restartAgrees hs
  · exact hs

end Sys2Proof.Machine
end

section
/-! PROOFS. What a step can do to one connector, and the obligations that are about each connector alone: the start order,
the ACTIVE entry, the outputs, the fault counter and the supervisor's timers (O7, O8, O9, O10, O11). -/

namespace Sys2Proof.Machine

/-! ### One connector under acts -/

/-- What an act can do to one connector. -/
inductive Connector.Act : Connector → Connector → Prop
  | same (k : Connector) : Act k k
  | move {t u : Site} (h : Site.Move t u) : Act t.conn u.conn
  | admission (k : Connector) (r : BusRequest) (tag slot : Byte) (hs : k.state = .powering ∨ k.state = .on)
      (ht : tag ∉ k.tags) :
      Act k { k with queue := k.queue ++ [r.entry k tag slot], postingCounter := r.counterAfter k }
  | remap (k : Connector) (before after : Nat) (h : before ≠ after → k.state.blocksMap = false) :
      Act k (k.remapped before after)

/-- What a command or a tick can do to one connector, with the device reset before and after it. -/
inductive Connector.Effect : Option ResetSources → Option ResetSources → Connector → Connector → Prop
  | acts {k k' : Connector} (h : Relation.ReflTransGen Connector.Act k k') : Effect none none k k'
  | held (r r' : Option ResetSources) (h : r = none ↔ r' = none) (k : Connector) : Effect r r' k k
  | levels (r : ResetSources) (k : Connector) (pres oc pg attn : Bool) :
      Effect (some r) (some r) k
        { k with presAsserted := pres, ocAsserted := oc, pgAsserted := pg, attnAsserted := attn }
  | resetBegins (r : ResetSources) (k : Connector) : Effect none (some r) k k.beginReset
  | resetEnds (r : ResetSources) (k : Connector) (disabled : Bool) : Effect (some r) none k (k.afterReset disabled)
  | ticks (r : Option ResetSources) (k : Connector) (reading : Option BusLines) :
      Effect r r k { k with engine := k.engine.tick reading }

/-- A bus-class request is admitted where every check passes (R53 to R57). -/
theorem BusRequest.refusal_none {r : BusRequest} {s : State} {tag slot : Byte} {c : ConnId}
    (h : r.refusal s tag slot = none) (hc : s.resolve slot = some c) :
    (tag.toNat < 32 ∧ s.restartPending = false ∧ tag ∉ s.tags) ∧
      (s.conns[c].state = .powering ∨ s.conns[c].state = .on) ∧
      s.conns[c].queue.length < s.conns[c].config.quota ∧ s.poolUsed < 48 := by
  unfold BusRequest.refusal at h
  cases hr : s.commonRefusal tag with
  | some status => rw [hr] at h; cases h
  | none =>
    rw [hr, hc] at h
    simp only at h
    split at h
    next => cases h
    next =>
      split at h
      next => cases h
      next hs =>
        split at h
        next => cases h
        next hq =>
          split at h
          next => cases h
          next hp =>
            refine ⟨State.commonRefusal_eq_none.1 hr, ?_, Nat.not_le.1 hq, Nat.not_le.1 hp⟩
            rcases Classical.em (s.conns[c].state = .powering) with h1 | h1
            · exact .inl h1
            · exact .inr (by_contra fun h2 => hs ⟨h1, h2⟩)

/-- A tag that no entry holds is held on no connector (R58). -/
theorem State.not_mem_tags {s : State} {tag : Byte} (h : tag ∉ s.tags) (c : ConnId) : tag ∉ s.conns[c].tags :=
  fun hm => h ((s.mem_tags tag).2 ⟨c, hm⟩)

/-- Where one connector is replaced, each is replaced or stands. -/
theorem State.act_of_replaced {s : State} {c : ConnId} {k : Connector} (h : Connector.Act s.conns[c] k) (d : ConnId) :
    Connector.Act s.conns[d] (s.withConn c k).conns[d] := by
  rw [State.withConn_getElem]
  split
  next hd => rw [hd]; exact h
  next => exact .same _

/-- What an act does to each connector. -/
theorem State.Act.conn {s t : State} (h : State.Act s t) (d : ConnId) : Connector.Act s.conns[d] t.conns[d] := by
  cases h with
  | move c u h => exact State.act_of_replaced (.move h) d
  | raise | answer | link | control => exact .same _
  | admission r m rest c tag slot hq hr hc =>
    obtain ⟨⟨-, -, htag⟩, hs, -⟩ := BusRequest.refusal_none hr hc
    exact State.act_of_replaced (.admission _ r tag slot hs (State.not_mem_tags htag c)) d
  | remap table h =>
    rw [State.remap_eq]
    have hread : (Vector.ofFn fun c : ConnId => s.conns[c].remapped (s.slotOf c) (slotIn table c))[d] =
        s.conns[d].remapped (s.slotOf d) (slotIn table d) := by simp
    rw [hread]
    refine .remap _ _ _ fun hne => ?_
    unfold State.mapRefusal at h
    split at h
    next => cases h
    next =>
      split at h
      next => cases h
      next hb =>
        have := List.any_eq_false.1 (eq_false_of_ne_true hb) d (mem_allConns d)
        simpa [State.affected, hne] using this

theorem State.Acts.conn {s t : State} (h : State.Acts s t) (d : ConnId) :
    Relation.ReflTransGen Connector.Act s.conns[d] t.conns[d] := by
  induction h with
  | refl => exact .refl
  | tail _ h ih => exact ih.tail (h.conn d)

/-- What a command does to each connector. -/
theorem Effect.conn {i : Instr} {s t : State} (he : Effect i s t) (d : ConnId) :
    Connector.Effect s.resetting t.resetting s.conns[d] t.conns[d] := by
  cases he with
  | acts hr h =>
    rw [h.settled.resetting, hr]
    exact .acts (h.conn d)
  | held | accepted | synced | wentDown | restartWaits => exact .held _ _ Iff.rfl _
  | framed =>
    obtain h | ⟨-, ⟨_, _, -, -, h⟩ | ⟨_, _, -, -, h⟩⟩ := s.frameOne_cases <;> rw [h] <;> exact .held _ _ Iff.rfl _
  | levels c pres oc pg attn hr =>
    obtain ⟨r, hr⟩ := Option.ne_none_iff_exists'.1 hr
    change Connector.Effect s.resetting s.resetting _ _
    rw [State.withConn_getElem, hr]
    split
    next hd => rw [hd]; exact .levels r _ pres oc pg attn
    next => exact .held _ _ Iff.rfl _
  | resetBegins l sources hr =>
    have hread : ((s.withLink l).resetBegun sources).conns[d] = s.conns[d].beginReset := by
      change (s.conns.map Connector.beginReset)[d] = _
      simp
    rw [hread, hr]
    exact .resetBegins sources _
  | resetJoined source r r' hr => rw [hr]; exact .held _ _ (by simp) _
  | resetEnds straps r hr =>
    have hread : (s.afterReset r straps).conns[d] = s.conns[d].afterReset (straps.cdis.getLsbD d.val) := by
      simp [State.afterReset]
    rw [hread, hr]
    exact .resetEnds r _ _

/-- What a step does to each connector. -/
theorem step_conn {s t : State} (h : step s = .next t) (d : ConnId) :
    Connector.Effect s.resetting t.resetting s.conns[d] t.conns[d] := by
  obtain ⟨i, rest, -, he⟩ | rfl := step_cases h
  · exact he.conn d
  · rw [State.tickWith_getElem]
    exact .ticks _ _ _

/-- Acts keep a connector's tags distinct (R58). -/
theorem Connector.Act.tags_nodup {k k' : Connector} (h : Connector.Act k k') (hd : k.tags.Nodup) : k'.tags.Nodup := by
  cases h with
  | same => exact hd
  | move h => exact h.tags.nodup hd
  | admission _ r tag slot hs ht =>
    have htags : (k.queue ++ [r.entry k tag slot]).map (fun e => e.tag) = k.tags ++ [tag] := by
      simp [Connector.tags, BusRequest.entry]
    rw [Connector.tags, htags]
    exact hd.append (List.nodup_singleton _) (by simpa using ht)
  | remap =>
    unfold Connector.remapped
    split
    next => exact hd
    next => split <;> exact hd

/-- What every act keeps where a connector's tags are distinct, acts keep. -/
theorem Connector.acts_keep {J : Connector → Prop} {k k' : Connector}
    (hJ : ∀ k k', Connector.Act k k' → k.tags.Nodup → J k → J k')
    (h : Relation.ReflTransGen Connector.Act k k') (hd : k.tags.Nodup) (hk : J k) : J k' := by
  have hboth : k'.tags.Nodup ∧ J k' := by
    induction h with
    | refl => exact ⟨hd, hk⟩
    | tail _ h ih => exact ⟨h.tags_nodup ih.1, hJ _ _ h ih.1 ih.2⟩
  exact hboth.2

/-- A device reset ends with empty queues (R180). -/
theorem Connector.afterReset_queue (k : Connector) (disabled : Bool) : (k.afterReset disabled).queue = [] := by
  unfold Connector.afterReset
  simp only
  split <;> rfl

/-! ### New slot maps -/

/-- A new table takes a connector it affects out of the map or into it, or leaves it. -/
theorem Connector.remapped_cases (k : Connector) (before after : Nat) :
    k.remapped before after = k ∨
      (before ≠ after ∧ (k.remapped before after = k.leftMap ∨ k.remapped before after = k.enteredMap)) := by
  unfold Connector.remapped
  split
  next h => exact .inr ⟨fun hab => h.1 (hab.trans h.2), .inl rfl⟩
  next =>
    split
    next h => exact .inr ⟨fun hab => h.2 (hab ▸ h.1), .inr rfl⟩
    next => exact .inl rfl

/-- A connector that a new table may affect has no power (R14). -/
theorem ConnState.unpowered_of_not_blocksMap {st : ConnState} (h : st.blocksMap = false) :
    st.powered = false ∧ st.usable = false := by
  cases st with
  | unused | empty | off | faulted => exact ⟨rfl, rfl⟩
  | _ => cases h

/-! ### The start order (O7) -/

theorem BusRequest.entry_state (r : BusRequest) (k : Connector) (tag slot : Byte) :
    (r.entry k tag slot).state = .waiting := rfl

theorem Connector.Act.startedInOrder {k k' : Connector} (h : Connector.Act k k') (hd : k.tags.Nodup)
    (hk : k.StartedInOrder) : k'.StartedInOrder := by
  cases h with
  | same => exact hk
  | move h => exact h.startedInOrder hd hk
  | admission _ r tag slot =>
    rw [Connector.startedInOrder_iff] at hk ⊢
    exact hk.append rfl
  | remap _ before after hb =>
    obtain h | ⟨-, h | h⟩ := k.remapped_cases before after <;> rw [h]
    · exact hk
    · exact hk.congr rfl
    · exact hk.congr rfl

/-- Settles O7: every act keeps the start order where tags are distinct, and nothing else adds or starts an entry. -/
theorem stepKeepsStartOrder : Obligations.StepKeepsStartOrder := by
  unfold Obligations.StepKeepsStartOrder
  intro s t hd hs hstep c
  have hk := hs c
  have htags := hd.conn c
  revert hk htags
  generalize s.conns[c] = k, t.conns[c] = k', s.resetting = r, t.resetting = r', step_conn hstep c = he
  intro hk htags
  cases he with
  | acts h => exact Connector.acts_keep (fun _ _ => Connector.Act.startedInOrder) h htags hk
  | held | levels | ticks => exact hk
  | resetBegins => exact Connector.startedInOrder_of_empty rfl
  | resetEnds => exact Connector.startedInOrder_of_empty (Connector.afterReset_queue _ _)

/-! ### The ACTIVE entry (O8) -/

/-- An entry that joins the tail waits: the ACTIVE entry stands. -/
theorem Connector.OneActive.append {k k' : Connector} (h : k.OneActive) {e : Entry} (he : e.state = .waiting)
    (hq : k'.queue = k.queue ++ [e]) (hengine : k'.engine = k.engine) (hstate : k'.state = k.state) : k'.OneActive := by
  obtain ⟨hc, hu, hw, hp⟩ := h
  have ha : k'.activeEntry = k.activeEntry := by
    rw [Connector.activeEntry, Connector.activeEntry, hq, List.find?_append]
    simp [he]
  refine ⟨?_, ?_, ?_, by rw [hengine]; exact hp⟩
  · rw [Connector.countIn] at hc ⊢
    rw [hq, List.countP_append]
    simpa [he] using hc
  · rw [ha, hstate]; exact hu
  · rw [Connector.workAgrees, hengine, ha]; exact hw

theorem Connector.Act.oneActive {k k' : Connector} (h : Connector.Act k k') (hd : k.tags.Nodup) (hk : k.OneActive) :
    k'.OneActive := by
  cases h with
  | same => exact hk
  | move h => exact h.oneActive hd hk
  | admission _ r tag slot => exact hk.append (r.entry_state k tag slot) rfl rfl rfl
  | remap _ before after hb =>
    obtain h | ⟨hne, h | h⟩ := k.remapped_cases before after <;> rw [h]
    · exact hk
    all_goals
      have hu := (ConnState.unpowered_of_not_blocksMap (hb hne)).2
      exact hk.congr rfl rfl fun h => (nomatch hu.symm.trans h)

/-- A connector without entries whose engine is OFF. -/
theorem Connector.oneActive_of_off {k : Connector} (hq : k.queue = []) (he : k.engine = .off) : k.OneActive := by
  refine Connector.oneActive_of_none (by rw [hq]; exact List.forall_mem_nil _) ?_ (by rw [he]; rfl)
  rw [Connector.workAgrees, he, Connector.activeEntry, hq]
  rfl

theorem Connector.afterReset_engine (k : Connector) (disabled : Bool) : (k.afterReset disabled).engine = .off := by
  unfold Connector.afterReset
  simp only
  split <;> rfl

/-- Settles O8: every act keeps the ACTIVE entry and the engine's work in step where tags are distinct, and so does a
tick of the engine. -/
theorem stepKeepsOneActive : Obligations.StepKeepsOneActive := by
  unfold Obligations.StepKeepsOneActive
  intro s t hd hs hstep c
  have hk := hs c
  have htags := hd.conn c
  revert hk htags
  generalize s.conns[c] = k, t.conns[c] = k', s.resetting = r, t.resetting = r', step_conn hstep c = he
  intro hk htags
  cases he with
  | acts h => exact Connector.acts_keep (fun _ _ => Connector.Act.oneActive) h htags hk
  | held => exact hk
  | levels => exact hk.congr rfl rfl id
  | ticks => exact hk.tick _
  | resetBegins => exact Connector.oneActive_of_off rfl rfl
  | resetEnds => exact Connector.oneActive_of_off (Connector.afterReset_queue _ _) (Connector.afterReset_engine _ _)

/-! ### Outputs (O9) -/

theorem Connector.Act.powerAgrees {k k' : Connector} (h : Connector.Act k k') (hk : k.PowerAgrees) :
    k'.PowerAgrees := by
  cases h with
  | same => exact hk
  | move h => exact h.powerAgrees hk
  | admission _ r tag slot hs =>
    obtain ⟨hpen, hmrst, hengine, -, -⟩ := hk
    refine ⟨hpen, hmrst, hengine, fun _ => ?_, fun _ => by simp⟩
    obtain hs | hs := hs <;> exact congrArg ConnState.powered hs
  | remap _ before after hb =>
    obtain h | ⟨hne, h | h⟩ := k.remapped_cases before after <;> rw [h]
    · exact hk
    all_goals
      obtain ⟨hpen, hmrst, hengine, hq⟩ := hk.unpowered (ConnState.unpowered_of_not_blocksMap (hb hne)).1
      exact Connector.powerAgrees_of_unpowered rfl hpen hmrst hengine hq

/-- What acts keep without a condition on tags. -/
theorem Connector.acts_keep' {J : Connector → Prop} {k k' : Connector} (hJ : ∀ k k', Connector.Act k k' → J k → J k')
    (h : Relation.ReflTransGen Connector.Act k k') (hk : J k) : J k' := by
  induction h with
  | refl => exact hk
  | tail _ h ih => exact hJ _ _ h ih

/-- A connector after a device reset has no power, its outputs safe (R180). -/
theorem Connector.afterReset_powerAgrees (k : Connector) (disabled : Bool) : (k.afterReset disabled).PowerAgrees := by
  unfold Connector.afterReset
  simp only
  split <;> exact Connector.powerAgrees_of_unpowered rfl rfl rfl rfl rfl

/-- Settles O9: acts keep the outputs in step, a device reset holds them, and its end leaves them in step. -/
theorem stepKeepsPowerOutputs : Obligations.StepKeepsPowerOutputs := by
  unfold Obligations.StepKeepsPowerOutputs
  intro s t hs hstep c
  have hk := hs c
  revert hk
  generalize s.conns[c] = k, t.conns[c] = k', s.resetting = r, t.resetting = r', step_conn hstep c = he
  intro hk
  cases he with
  | acts h => exact Connector.acts_keep' (fun _ _ => Connector.Act.powerAgrees) h hk
  | held =>
    rename_i hrr
    have : r.isSome = r'.isSome := by cases r <;> cases r' <;> simp_all
    rwa [← this]
  | levels => exact hk
  | ticks _ _ reading =>
    cases hr : r.isSome with
    | true =>
      rw [hr] at hk
      obtain ⟨hpen, hmrst, hengine, hq⟩ := hk
      exact ⟨hpen, hmrst, by rw [hengine]; rfl, hq⟩
    | false =>
      rw [hr] at hk
      obtain ⟨hpen, hmrst, hengine, hq, hdrain⟩ := hk
      refine ⟨hpen, ?_, ?_, hq, hdrain⟩
      · rw [Engine.tick_isPulsing]; exact hmrst
      · have hoff : k.engine.tick reading = .off ↔ k.engine = .off := by
          have hstate : ∀ e : Engine, e = .off ↔ e.state = .off := by intro e; cases e <;> simp [Engine.state]
          rw [hstate, Engine.tick_state, ← hstate]
        rw [hoff]; exact hengine
  | resetBegins => exact ⟨rfl, rfl, rfl, rfl⟩
  | resetEnds => exact Connector.afterReset_powerAgrees _ _

/-! ### The fault counter (O10) -/

theorem Connector.Act.countersFollow {k k' : Connector} (h : Connector.Act k k') (hk : k.CountersFollow) :
    k'.CountersFollow := by
  cases h with
  | same | admission => exact hk
  | move h => exact h.countersFollow hk
  | remap _ before after =>
    obtain h | ⟨-, h | h⟩ := k.remapped_cases before after <;> rw [h]
    · exact hk
    all_goals exact Connector.countersFollow_of_settled rfl ConnState.noConfusion rfl (.inl rfl)

theorem Connector.afterReset_countersFollow (k : Connector) (disabled : Bool) :
    (k.afterReset disabled).CountersFollow := by
  unfold Connector.afterReset
  simp only
  split <;> exact Connector.countersFollow_of_settled rfl ConnState.noConfusion rfl (.inl rfl)

/-- Settles O10: acts keep the counter and its timer, and a device reset leaves the counter where it stands. -/
theorem stepKeepsFaultCounters : Obligations.StepKeepsFaultCounters := by
  unfold Obligations.StepKeepsFaultCounters
  intro s t hs hstep c
  have hk := hs c
  revert hk
  generalize s.conns[c] = k, t.conns[c] = k', s.resetting = r, t.resetting = r', step_conn hstep c = he
  intro hk
  obtain ⟨hplaced, hwindow⟩ := hk
  cases he with
  | acts h =>
    have hk' := Connector.acts_keep' (fun _ _ => Connector.Act.countersFollow) h ⟨hplaced, hwindow rfl⟩
    exact ⟨hk'.1, fun _ => hk'.2⟩
  | held =>
    rename_i hrr
    exact ⟨hplaced, fun h => hwindow (hrr.2 h)⟩
  | levels | ticks => exact ⟨hplaced, hwindow⟩
  | resetBegins => exact ⟨hplaced, nofun⟩
  | resetEnds _ _ disabled =>
    have hk' := Connector.afterReset_countersFollow k disabled
    exact ⟨hk'.1, fun _ => hk'.2⟩

/-! ### The supervisor's timers (O11) -/

theorem Connector.leftMap_timersAgree (k : Connector) : k.leftMap.TimersAgree :=
  Connector.timersAgree_of_settled rfl rfl rfl rfl rfl rfl rfl

/-- In EMPTY, with debounce and attention started afresh. -/
theorem Connector.timersAgree_of_enterMap {k : Connector} (hs : k.state = .empty) (hq : k.qualify = none)
    (hp : k.pgDeadline = none) (hi : k.inrush = none) (hsteady : k.steady = false)
    (hd : k.debounce.isSome = k.presAsserted) (ha : k.attnTimer.isSome = k.attnAsserted) : k.TimersAgree := by
  refine Connector.timersAgree_of_settled (by rw [hs]; rfl) hq hp hi ?_ ?_ ?_
  · rw [hd, hs]; cases k.presAsserted <;> rfl
  · rw [ha, hs, hsteady]; cases k.attnAsserted <;> rfl
  · rw [hsteady, Bool.and_false]

theorem Connector.enteredMap_timersAgree (k : Connector) : k.enteredMap.TimersAgree := by
  refine Connector.timersAgree_of_enterMap rfl rfl rfl rfl rfl ?_ ?_
  · change (if k.presAsserted then some k.config.debounceMs else none).isSome = k.presAsserted
    cases k.presAsserted <;> rfl
  · change (if k.attnAsserted then some 1 else none).isSome = k.attnAsserted
    cases k.attnAsserted <;> rfl

theorem Connector.afterReset_timersAgree (k : Connector) (disabled : Bool) : (k.afterReset disabled).TimersAgree := by
  unfold Connector.afterReset
  cases disabled with
  | true => exact Connector.timersAgree_of_settled rfl rfl rfl rfl rfl rfl rfl
  | false =>
    refine Connector.timersAgree_of_enterMap rfl rfl rfl rfl rfl ?_ ?_
    · simp only [Connector.enterMap]; cases k.presAsserted <;> rfl
    · simp only [Connector.enterMap]; cases k.attnAsserted <;> rfl

theorem Connector.Act.timersAgree {k k' : Connector} (h : Connector.Act k k') (hk : k.TimersAgree) :
    k'.TimersAgree := by
  cases h with
  | same | admission => exact hk
  | move h => exact h.timersAgree hk
  | remap _ before after =>
    obtain h | ⟨-, h | h⟩ := k.remapped_cases before after <;> rw [h]
    · exact hk
    · exact k.leftMap_timersAgree
    · exact k.enteredMap_timersAgree

/-- Settles O11: acts keep the timers, and a device reset's end starts those of asserted inputs afresh. -/
theorem stepKeepsSupervisorTimers : Obligations.StepKeepsSupervisorTimers := by
  unfold Obligations.StepKeepsSupervisorTimers
  intro s t hs hstep ht c
  have hk := fun h => hs h c
  revert hk ht
  generalize s.conns[c] = k, t.conns[c] = k', s.resetting = r, t.resetting = r', step_conn hstep c = he
  intro ht hk
  cases he with
  | acts h => exact Connector.acts_keep' (fun _ _ => Connector.Act.timersAgree) h (hk rfl)
  | held =>
    rename_i hrr
    exact hk (hrr.2 ht)
  | levels => cases ht
  | ticks => exact hk ht
  | resetBegins => cases ht
  | resetEnds => exact Connector.afterReset_timersAgree _ _

end Sys2Proof.Machine
end

section
/-! PROOFS. The Request Pool and the slot map: tags, quotas, response places and slots (O5, O6, O12, O16). -/

namespace Sys2Proof.Machine

/-! ### Numbers of entries over all connectors -/

/-- A number of each connector, summed over all of them. -/
def State.total (s : State) (f : Connector → Nat) : Nat := (s.conns.toList.map f).sum

theorem State.total_eq (s : State) (f : Connector → Nat) : s.total f = ∑ c : ConnId, f s.conns[c] := by
  have h : s.conns.toList.map f = List.ofFn fun c : ConnId => f s.conns[c] := by
    refine List.ext_getElem (by rw [List.length_map, List.length_ofFn, Vector.length_toList]) fun i _ _ => ?_
    rw [List.getElem_map, List.getElem_ofFn, Vector.getElem_toList]
    rfl
  rw [State.total, h, List.sum_ofFn]

/-- The entries of the pool, and those of them that hold a response place (R57, R65). -/
theorem State.poolUsed_eq (s : State) : s.poolUsed = s.total fun k => k.queue.length := rfl

/-- The tracked entries of a connector (R65). -/
def Connector.tracked (k : Connector) : Nat := k.queue.countP fun e => !e.posted

theorem State.reservedPlaces_eq (s : State) : s.reservedPlaces = s.total Connector.tracked := rfl

/-- Replacing one connector changes the sum by what it holds more or less. -/
theorem State.total_withConn (s : State) (c : ConnId) (k : Connector) (f : Connector → Nat) :
    (s.withConn c k).total f + f s.conns[c] = s.total f + f k := by
  have hrest : ∑ d ∈ Finset.univ.erase c, f (s.withConn c k).conns[d] = ∑ d ∈ Finset.univ.erase c, f s.conns[d] := by
    refine Finset.sum_congr rfl fun d hd => ?_
    rw [State.withConn_getElem, if_neg (Finset.ne_of_mem_erase hd)]
  rw [State.total_eq, State.total_eq, ← Finset.add_sum_erase _ _ (Finset.mem_univ c),
    ← Finset.add_sum_erase _ (fun d => f s.conns[d]) (Finset.mem_univ c), hrest, State.withConn_getElem_self]
  omega

theorem State.total_congr {s t : State} {f : Connector → Nat} (h : ∀ c : ConnId, f t.conns[c] = f s.conns[c]) :
    t.total f = s.total f := by
  rw [State.total_eq, State.total_eq]
  exact Finset.sum_congr rfl fun c _ => h c

theorem State.total_mono {s t : State} {f : Connector → Nat} (h : ∀ c : ConnId, f t.conns[c] ≤ f s.conns[c]) :
    t.total f ≤ s.total f := by
  rw [State.total_eq, State.total_eq]
  exact Finset.sum_le_sum fun c _ => h c

/-! ### Queues under an effect -/

theorem State.frameOne_conns (s : State) : s.frameOne.conns = s.conns ∧ s.frameOne.slotMap = s.slotMap ∧
    s.frameOne.strapDisabled = s.strapDisabled ∧ s.frameOne.admissionQueue = s.admissionQueue ∧
    s.frameOne.resetting = s.resetting := by
  obtain h | ⟨-, ⟨_, _, -, -, h⟩ | ⟨_, _, -, -, h⟩⟩ := s.frameOne_cases <;> rw [h] <;> exact ⟨rfl, rfl, rfl, rfl, rfl⟩

/-- A connector keeps its entries, its record and its place in the map. -/
structure Connector.Stands (k k' : Connector) : Prop where
  queue : k'.queue = k.queue
  config : k'.config = k.config
  unused : k'.state = .unused ↔ k.state = .unused

theorem Connector.Stands.refl (k : Connector) : k.Stands k := ⟨rfl, rfl, Iff.rfl⟩

/-- The part keeps its map, and every connector its entries, its record and its place in the map. -/
structure State.Stands (s t : State) : Prop where
  conn : ∀ c : ConnId, s.conns[c].Stands t.conns[c]
  slotMap : t.slotMap = s.slotMap
  strapDisabled : t.strapDisabled = s.strapDisabled

theorem State.Stands.of_conns {s t : State} (h : t.conns = s.conns) (hm : t.slotMap = s.slotMap)
    (hd : t.strapDisabled = s.strapDisabled) : s.Stands t :=
  ⟨fun c => by rw [h]; exact .refl _, hm, hd⟩

theorem Connector.afterReset_config (k : Connector) (disabled : Bool) :
    (k.afterReset disabled).config = SlotConfig.default := by
  unfold Connector.afterReset
  simp only
  split <;> rfl

theorem State.resetBegun_getElem (s : State) (sources : ResetSources) (c : ConnId) :
    (s.resetBegun sources).conns[c] = s.conns[c].beginReset := by
  change (s.conns.map Connector.beginReset)[c] = _
  simp

theorem State.afterReset_getElem (s : State) (r : ResetSources) (straps : Straps) (c : ConnId) :
    (s.afterReset r straps).conns[c] = s.conns[c].afterReset (straps.cdis.getLsbD c.val) := by
  simp [State.afterReset]

/-- A command acts, leaves the pool and the map alone, or begins or ends a device reset. -/
theorem Effect.pool {i : Instr} {s t : State} (he : Effect i s t) :
    (s.resetting = none ∧ State.Acts s t) ∨ s.Stands t ∨
      (∃ l sources, t = (s.withLink l).resetBegun sources) ∨ ∃ straps r, t = s.afterReset r straps := by
  cases he with
  | acts hr h => exact .inl ⟨hr, h⟩
  | held | accepted | synced | wentDown | restartWaits | resetJoined => exact .inr (.inl (.of_conns rfl rfl rfl))
  | framed =>
    obtain ⟨hc, hm, hd, -⟩ := s.frameOne_conns
    exact .inr (.inl (.of_conns hc hm hd))
  | levels c =>
    refine .inr (.inl ⟨fun d => ?_, rfl, rfl⟩)
    rw [State.withConn_getElem]
    split
    next hd => rw [hd]; exact ⟨rfl, rfl, Iff.rfl⟩
    next => exact .refl _
  | resetBegins l sources => exact .inr (.inr (.inl ⟨l, sources, rfl⟩))
  | resetEnds straps r => exact .inr (.inr (.inr ⟨straps, r, rfl⟩))

/-- The same of a step: a tick leaves the pool and the map alone. -/
theorem step_pool {s t : State} (h : step s = .next t) :
    ∃ rest, let u := { s with pending := rest }
      (u.resetting = none ∧ State.Acts u t) ∨ u.Stands t ∨
        (∃ l sources, t = (u.withLink l).resetBegun sources) ∨ ∃ straps r, t = u.afterReset r straps := by
  obtain ⟨i, rest, -, he⟩ | rfl := step_cases h
  · exact ⟨rest, he.pool⟩
  · refine ⟨s.pending, .inr (.inl ⟨fun c => ?_, rfl, rfl⟩)⟩
    rw [State.tickWith_getElem]
    exact ⟨rfl, rfl, Iff.rfl⟩

/-- A new table leaves each connector its entries and its record. -/
theorem Connector.remapped_queue (k : Connector) (before after : Nat) :
    (k.remapped before after).queue = k.queue ∧ (k.remapped before after).config = k.config := by
  obtain h | ⟨-, h | h⟩ := k.remapped_cases before after <;> rw [h] <;> exact ⟨rfl, rfl⟩

theorem State.remap_getElem (s : State) (table : Vector (Option ConnId) 8) (c : ConnId) :
    (s.remap table).conns[c] = s.conns[c].remapped (s.slotOf c) (slotIn table c) := by
  rw [State.remap_eq]
  simp

theorem BusRequest.admitted_getElem (r : BusRequest) (s : State) (c d : ConnId) (tag slot : Byte) :
    (r.admitted s c tag slot).conns[d] =
      if d = c then
        { s.conns[c] with
          queue := s.conns[c].queue ++ [r.entry s.conns[c] tag slot], postingCounter := r.counterAfter s.conns[c] }
      else s.conns[d] :=
  s.taken.withConn_getElem c d _

theorem State.putSite_getElem (s : State) (c d : ConnId) (u : Site) :
    (s.putSite c u).conns[d] = if d = c then u.conn else s.conns[d] :=
  s.withConn_getElem c d u.conn

/-! ### Tags (O5) -/

/-- Tags are distinct on each connector, held on one connector each, and in range (R53, R58). -/
theorem State.tagsDistinct_iff (s : State) :
    s.TagsDistinct ↔
      (∀ c : ConnId, s.conns[c].tags.Nodup) ∧
        (∀ (c d : ConnId) (tag : Byte), tag ∈ s.conns[c].tags → tag ∈ s.conns[d].tags → c = d) ∧
        ∀ (c : ConnId) (tag : Byte), tag ∈ s.conns[c].tags → tag.toNat < 32 := by
  refine ⟨fun h => ⟨h.conn, fun c d tag => h.conn_unique, fun c tag hm => h.2 tag ((s.mem_tags tag).2 ⟨c, hm⟩)⟩, ?_⟩
  rintro ⟨hnodup, hone, hrange⟩
  refine ⟨List.nodup_flatMap.2 ⟨fun k hk => ?_, ?_⟩, fun tag hm => ?_⟩
  · obtain ⟨i, hi, rfl⟩ := Vector.mem_iff_getElem.1 (Vector.mem_toList_iff.1 hk)
    exact hnodup ⟨i, hi⟩
  · rw [List.pairwise_iff_getElem]
    intro i j hi hj hij tag hci hcj
    have hi8 : i < 8 := by simpa using hi
    have hj8 : j < 8 := by simpa using hj
    have := hone ⟨i, hi8⟩ ⟨j, hj8⟩ tag hci hcj
    exact absurd (congrArg Fin.val this) (Nat.ne_of_lt hij)
  · obtain ⟨c, hc⟩ := (s.mem_tags tag).1 hm
    exact hrange c tag hc

/-- A part whose connectors hold some of the tags they held. -/
theorem State.TagsDistinct.of_sublist {s t : State} (h : s.TagsDistinct)
    (hsub : ∀ c : ConnId, t.conns[c].tags.Sublist s.conns[c].tags) : t.TagsDistinct := by
  obtain ⟨hnodup, hone, hrange⟩ := s.tagsDistinct_iff.1 h
  exact t.tagsDistinct_iff.2
    ⟨fun c => (hsub c).nodup (hnodup c), fun c d tag hc hd => hone c d tag ((hsub c).subset hc) ((hsub d).subset hd),
      fun c tag hc => hrange c tag ((hsub c).subset hc)⟩

/-- An entry joins with a tag in range that no entry holds. -/
theorem BusRequest.admitted_tagsDistinct {r : BusRequest} {s : State} {c : ConnId} {tag slot : Byte}
    (h : s.TagsDistinct) (hlt : tag.toNat < 32) (hnew : tag ∉ s.tags) : (r.admitted s c tag slot).TagsDistinct := by
  have htags : ∀ d : ConnId, (r.admitted s c tag slot).conns[d].tags =
      s.conns[d].tags ++ if d = c then [tag] else [] := by
    intro d
    rw [BusRequest.admitted_getElem]
    split
    next hd => rw [hd]; simp [Connector.tags, BusRequest.entry]
    next => simp
  have hnone : ∀ d : ConnId, tag ∉ s.conns[d].tags := State.not_mem_tags hnew
  obtain ⟨hnodup, hone, hrange⟩ := s.tagsDistinct_iff.1 h
  refine (State.tagsDistinct_iff _).2 ⟨fun d => ?_, fun d d' x hd hd' => ?_, fun d x hd => ?_⟩
  · rw [htags]
    split
    · exact (hnodup d).append (List.nodup_singleton _) (by simpa using hnone d)
    · simpa using hnodup d
  · rw [htags] at hd hd'
    rcases List.mem_append.1 hd with hd | hd <;> rcases List.mem_append.1 hd' with hd' | hd'
    · exact hone d d' x hd hd'
    · obtain ⟨-, rfl⟩ : d' = c ∧ x = tag := by simpa using hd'
      exact absurd hd (hnone d)
    · obtain ⟨-, rfl⟩ : d = c ∧ x = tag := by simpa using hd
      exact absurd hd' (hnone d')
    · obtain ⟨rfl, -⟩ : d = c ∧ x = tag := by simpa using hd
      obtain ⟨rfl, -⟩ : d' = d ∧ x = tag := by simpa using hd'
      rfl
  · rw [htags] at hd
    rcases List.mem_append.1 hd with hd | hd
    · exact hrange d x hd
    · obtain ⟨-, rfl⟩ : d = c ∧ x = tag := by simpa using hd
      exact hlt

theorem State.Act.tagsDistinct {s t : State} (h : State.Act s t) (hs : s.TagsDistinct) : t.TagsDistinct := by
  cases h with
  | raise | answer | link | control => exact hs
  | move c u h =>
    refine hs.of_sublist fun d => ?_
    rw [State.putSite_getElem]
    split
    next hd => rw [hd]; exact h.tags
    next => exact .refl _
  | admission r m rest c tag slot hq hr hc =>
    obtain ⟨⟨hlt, -, hnew⟩, -⟩ := BusRequest.refusal_none hr hc
    exact BusRequest.admitted_tagsDistinct hs hlt hnew
  | remap table =>
    refine hs.of_sublist fun d => ?_
    rw [State.remap_getElem, Connector.tags, (Connector.remapped_queue _ _ _).1]
    exact .refl _

/-- Settles O5: a request is admitted with a tag that no entry holds, and nothing else brings an entry (R58). -/
theorem stepKeepsTagsDistinct : Obligations.StepKeepsTagsDistinct := by
  unfold Obligations.StepKeepsTagsDistinct
  intro s t hs hstep
  obtain ⟨rest, ⟨-, h⟩ | h | ⟨l, sources, rfl⟩ | ⟨straps, r, rfl⟩⟩ := step_pool hstep
  · exact h.keep (fun _ _ h => h.tagsDistinct) hs
  · refine State.TagsDistinct.of_sublist (s := s) hs fun c => ?_
    rw [Connector.tags, (h.conn c).queue]
    exact .refl _
  · refine State.TagsDistinct.of_sublist (s := s) hs fun c => ?_
    rw [State.resetBegun_getElem]
    exact List.nil_sublist _
  · refine State.TagsDistinct.of_sublist (s := s) hs fun c => ?_
    rw [State.afterReset_getElem, Connector.tags, Connector.afterReset_queue]
    exact List.nil_sublist _

/-! ### Quotas and the pool (O6) -/

/-- A part whose connectors hold no more entries than they held, with records in range. -/
theorem State.PoolBounded.of_le {s t : State} (h : s.PoolBounded)
    (hle : ∀ c : ConnId, t.conns[c].queue.length ≤ s.conns[c].queue.length)
    (hin : ∀ c : ConnId, t.conns[c].config = s.conns[c].config ∨ t.conns[c].config.inRange = true) : t.PoolBounded := by
  refine ⟨(State.total_mono (f := fun k => k.queue.length) hle).trans h.1, fun c => ⟨(hle c).trans (h.2 c).1, ?_⟩⟩
  obtain hc | hc := hin c
  · rw [hc]; exact (h.2 c).2
  · exact hc

/-- A record in range has a quota of at most 16 (R169). -/
theorem SlotConfig.quota_le {r : SlotConfig} (h : r.inRange = true) : r.quota ≤ 16 := by
  simp only [SlotConfig.inRange, decide_eq_true_eq] at h
  omega

theorem State.Act.poolBounded {s t : State} (h : State.Act s t) (hs : s.PoolBounded) : t.PoolBounded := by
  cases h with
  | raise | answer | link | control => exact hs
  | move c u h =>
    have hlen : u.conn.queue.length ≤ s.conns[c].queue.length := by
      simpa [Connector.labels] using h.labels.length_le
    refine hs.of_le (fun d => ?_) fun d => ?_ <;> rw [State.putSite_getElem]
    · split
      next hd => rw [hd]; exact hlen
      next => exact le_refl _
    · split
      next hd => rw [hd]; exact h.config_and_map.1
      next => exact .inl rfl
  | admission r m rest c tag slot hq hr hc =>
    obtain ⟨-, -, hquota, hpool⟩ := BusRequest.refusal_none hr hc
    have htotal := s.taken.total_withConn c
      { s.conns[c] with
        queue := s.conns[c].queue ++ [r.entry s.conns[c] tag slot], postingCounter := r.counterAfter s.conns[c] }
      fun k => k.queue.length
    change (r.admitted s c tag slot).poolUsed + s.conns[c].queue.length = s.poolUsed + _ at htotal
    rw [List.length_append, List.length_singleton] at htotal
    refine ⟨by omega, fun d => ?_⟩
    rw [BusRequest.admitted_getElem]
    split
    next hd =>
      have := SlotConfig.quota_le (hs.2 c).2
      refine ⟨?_, (hs.2 c).2⟩
      rw [List.length_append, List.length_singleton]
      omega
    next => exact hs.2 d
  | remap table =>
    refine hs.of_le (fun d => ?_) fun d => ?_ <;> rw [State.remap_getElem]
    · rw [(Connector.remapped_queue _ _ _).1]
    · exact .inl (Connector.remapped_queue _ _ _).2

/-- Settles O6: a request is admitted below the quota and the pool's size, and records are replaced in range (R56, R57,
R169, R170). -/
theorem stepKeepsPoolBounds : Obligations.StepKeepsPoolBounds := by
  unfold Obligations.StepKeepsPoolBounds
  intro s t hs hstep
  obtain ⟨rest, ⟨-, h⟩ | h | ⟨l, sources, rfl⟩ | ⟨straps, r, rfl⟩⟩ := step_pool hstep
  · exact h.keep (fun _ _ h => h.poolBounded) hs
  · exact State.PoolBounded.of_le (s := s) hs (fun c => (congrArg List.length (h.conn c).queue).le) fun c =>
      .inl (h.conn c).config
  · refine State.PoolBounded.of_le (s := s) hs (fun c => ?_) fun c => ?_ <;> rw [State.resetBegun_getElem]
    · exact Nat.zero_le _
    · exact .inl rfl
  · refine State.PoolBounded.of_le (s := s) hs (fun c => ?_) fun c => ?_ <;> rw [State.afterReset_getElem]
    · rw [Connector.afterReset_queue]; exact Nat.zero_le _
    · rw [Connector.afterReset_config]; exact .inr (by decide)

end Sys2Proof.Machine
end

section
/-! PROOFS. The slot map, and the invariants at reset (O3, O12). -/

namespace Sys2Proof.Machine

/-! ### Tables -/

/-- The connectors a table names are those it has in an entry. -/
theorem mem_namedIn {table : Vector (Option ConnId) 8} {c : ConnId} : c ∈ namedIn table ↔ some c ∈ table.toList := by
  simp [namedIn]

/-- No slot leads to a connector that the table does not name. -/
theorem slotIn_eq_zero {table : Vector (Option ConnId) 8} {c : ConnId} : slotIn table c = 0 ↔ c ∉ namedIn table := by
  have hmem : c ∈ namedIn table ↔ ∃ x ∈ table.toList, (x == some c) = true := by
    rw [mem_namedIn]
    simp
  unfold slotIn
  cases h : table.toList.findIdx? fun entry => entry == some c with
  | some i =>
    obtain ⟨hi, hp, -⟩ := List.findIdx?_eq_some_iff_getElem.1 h
    exact iff_of_false (Nat.succ_ne_zero i) (not_not.2 (hmem.2 ⟨_, List.getElem_mem hi, hp⟩))
  | none =>
    refine iff_of_true rfl fun hc => ?_
    obtain ⟨x, hx, hp⟩ := hmem.1 hc
    exact absurd hp (by simpa using List.findIdx?_eq_none_iff.1 h x hx)

/-- In a table that names no connector twice, the slot that leads to a connector is the one whose entry names it. -/
theorem slotIn_of_getElem? {table : Vector (Option ConnId) 8} (hd : (namedIn table).Nodup) {c : ConnId} {i : Nat}
    (h : table.toList[i]? = some (some c)) : slotIn table c = i + 1 := by
  obtain ⟨hi, hget⟩ := List.getElem?_eq_some_iff.1 h
  have hpair := List.pairwise_filterMap.1 hd
  rw [List.pairwise_iff_getElem] at hpair
  have hfind : table.toList.findIdx? (fun entry => entry == some c) = some i := by
    refine List.findIdx?_eq_some_iff_getElem.2 ⟨hi, by simp [hget], fun j hj hp => ?_⟩
    have hjc : table.toList[j] = some c := by simpa using hp
    exact hpair j i (by omega) hi hj c hjc c hget rfl
  rw [slotIn, hfind]

/-- The slot byte a connector was found by is the slot that leads to it (R12). -/
theorem State.slotOf_of_resolve {s : State} (hd : (namedIn s.slotMap).Nodup) {slot : Byte} {c : ConnId}
    (h : s.resolve slot = some c) : s.slotOf c = slot.toNat := by
  unfold State.resolve at h
  by_cases hz : slot.toNat = 0
  · rw [if_pos hz] at h; cases h
  · rw [if_neg hz, Option.join_eq_some_iff] at h
    have := slotIn_of_getElem? hd h
    rw [State.slotOf, this]
    omega

/-- A table that passes its own checks names no connector twice, and none strap-disabled or in use (R14). -/
theorem State.mapRefusal_eq_none {s : State} {table : Vector (Option ConnId) 8} :
    s.mapRefusal table = none ↔
      ((namedIn table).Nodup ∧ ∀ c ∈ namedIn table, s.strapDisabled.getLsbD c.val = false) ∧
        ∀ c : ConnId, s.slotOf c ≠ slotIn table c → s.conns[c].state.blocksMap = false := by
  have hwrong : (¬(namedIn table).Nodup ∨ (namedIn table).any (fun c => s.strapDisabled.getLsbD c.val) = true) ↔
      ¬((namedIn table).Nodup ∧ ∀ c ∈ namedIn table, s.strapDisabled.getLsbD c.val = false) := by
    rw [not_and_or]
    simp
  have hblocked : allConns.any (fun c => s.affected table c && s.conns[c].state.blocksMap) = true ↔
      ¬∀ c : ConnId, s.slotOf c ≠ slotIn table c → s.conns[c].state.blocksMap = false := by
    simp [List.any_eq_true, mem_allConns, State.affected]
  unfold State.mapRefusal
  by_cases h1 : (namedIn table).Nodup ∧ ∀ c ∈ namedIn table, s.strapDisabled.getLsbD c.val = false
  · rw [if_neg (mt hwrong.1 (not_not.2 h1))]
    by_cases h2 : ∀ c : ConnId, s.slotOf c ≠ slotIn table c → s.conns[c].state.blocksMap = false
    · rw [if_neg (mt hblocked.1 (not_not.2 h2))]
      exact iff_of_true rfl ⟨h1, h2⟩
    · rw [if_pos (hblocked.2 h2)]
      exact iff_of_false nofun fun h => h2 h.2
  · rw [if_pos (hwrong.2 h1)]
    exact iff_of_false nofun fun h => h1 h.1

/-! ### The default map (R11) -/

/-- Up to eight entries, and none behind them. -/
theorem ofFn_getElem? {α : Type} {l : List α} (h : l.length ≤ 8) :
    [l[0]?, l[1]?, l[2]?, l[3]?, l[4]?, l[5]?, l[6]?, l[7]?] = l.map some ++ List.replicate (8 - l.length) none := by
  have hofFn : [l[0]?, l[1]?, l[2]?, l[3]?, l[4]?, l[5]?, l[6]?, l[7]?] = List.ofFn fun i : Fin 8 => l[i.val]? := rfl
  rw [hofFn]
  refine List.ext_getElem (by simp; omega) fun i hi _ => ?_
  rw [List.getElem_ofFn, List.getElem_append]
  split
  next hlt =>
    have hlt' : i < l.length := by simpa using hlt
    simp [hlt']
  next hge =>
    have hge' : l.length ≤ i := by simpa using hge
    simp [hge']

/-- The connectors the default map names, in ascending order (R11). -/
def enabledConns (disabled : ConnSet) : List ConnId := allConns.filter fun c => !disabled.getLsbD c.val

theorem defaultMap_toList (disabled : ConnSet) :
    (defaultMap disabled).toList =
      (enabledConns disabled).map some ++ List.replicate (8 - (enabledConns disabled).length) none :=
  ofFn_getElem? (List.length_filter_le _ allConns)

theorem namedIn_defaultMap (disabled : ConnSet) : namedIn (defaultMap disabled) = enabledConns disabled := by
  rw [namedIn, defaultMap_toList]
  simp [List.filterMap_append, List.filterMap_map]

theorem mem_enabledConns {disabled : ConnSet} {c : ConnId} :
    c ∈ enabledConns disabled ↔ disabled.getLsbD c.val = false := by
  simp [enabledConns, mem_allConns]

theorem Connector.afterReset_unused (k : Connector) (disabled : Bool) :
    (k.afterReset disabled).state = .unused ↔ disabled = true := by
  cases disabled <;> simp [Connector.afterReset]

/-- A device reset ends with the map and the connectors in agreement (R9, R10, R11). -/
theorem State.afterReset_mapAgrees (s : State) (r : ResetSources) (straps : Straps) :
    (s.afterReset r straps).MapAgrees := by
  have hnamed : namedIn (s.afterReset r straps).slotMap = enabledConns straps.cdis := namedIn_defaultMap _
  refine ⟨?_, fun c hc => ?_, fun c => ?_⟩
  · rw [hnamed]
    exact allConns_nodup.filter _
  · rw [hnamed] at hc
    exact mem_enabledConns.1 hc
  · rw [State.afterReset_getElem, Connector.afterReset_unused, hnamed, mem_enabledConns]
    simp

/-! ### The map and the connectors (R10) -/

theorem State.MapAgrees.congr {s t : State} (h : s.MapAgrees) (hm : t.slotMap = s.slotMap)
    (hd : t.strapDisabled = s.strapDisabled)
    (hs : ∀ c : ConnId, t.conns[c].state = .unused ↔ s.conns[c].state = .unused) : t.MapAgrees := by
  obtain ⟨hnodup, hstrap, hunused⟩ := h
  exact ⟨by rw [hm]; exact hnodup, by rw [hm, hd]; exact hstrap, fun c => by rw [hs, hm]; exact hunused c⟩

/-- A connector is UNUSED after a new table exactly where the table does not name it (R10, R15). -/
theorem Connector.remapped_unused {k : Connector} {before after : Nat} (hk : k.state = .unused ↔ before = 0) :
    (k.remapped before after).state = .unused ↔ after = 0 := by
  unfold Connector.remapped
  split
  next h => exact iff_of_true rfl h.2
  next h =>
    split
    next h' => exact iff_of_false ConnState.noConfusion h'.2
    next h' => rw [hk]; omega

theorem State.Act.mapAgrees {s t : State} (h : State.Act s t) (hs : s.MapAgrees) : t.MapAgrees := by
  cases h with
  | raise | answer | link | control => exact hs
  | move c u h =>
    refine hs.congr rfl rfl fun d => ?_
    rw [State.putSite_getElem]
    split
    next hd => rw [hd]; exact h.config_and_map.2
    next => exact Iff.rfl
  | admission r m rest c tag slot =>
    refine hs.congr rfl rfl fun d => ?_
    rw [BusRequest.admitted_getElem]
    split
    next hd => rw [hd]
    next => exact Iff.rfl
  | remap table h =>
    obtain ⟨⟨hnodup, hstrap⟩, -⟩ := State.mapRefusal_eq_none.1 h
    have hmap : (s.remap table).slotMap = table := by rw [State.remap_eq]
    have hdisabled : (s.remap table).strapDisabled = s.strapDisabled := by rw [State.remap_eq]
    refine ⟨by rw [hmap]; exact hnodup, by rw [hmap, hdisabled]; exact hstrap, fun c => ?_⟩
    rw [hmap, State.remap_getElem, ← slotIn_eq_zero]
    exact Connector.remapped_unused ((hs.2.2 c).trans slotIn_eq_zero.symm)

/-! ### The slots of entries (R12) -/

/-- The map agrees with the connectors, entries are held only with power on, and each holds its connector's slot. -/
structure State.SlotsStand (s : State) : Prop where
  map : s.MapAgrees
  power : ∀ c : ConnId, s.conns[c].PowerAgrees
  slots : s.EntrySlotsStand

theorem State.Act.power {s t : State} (h : State.Act s t) (hs : ∀ c : ConnId, s.conns[c].PowerAgrees) (c : ConnId) :
    t.conns[c].PowerAgrees :=
  (h.conn c).powerAgrees (hs c)

/-- Entries of a connector keep their slots under a move. -/
theorem Site.Move.slots {t u : Site} (h : Site.Move t u) {n : Nat} (ht : ∀ e ∈ t.conn.queue, e.slot = n) :
    ∀ e ∈ u.conn.queue, e.slot = n := by
  intro e he
  have hm : e.label ∈ t.conn.labels := h.labels.subset (List.mem_map_of_mem he)
  obtain ⟨x, hx, hlabel⟩ := List.mem_map.1 hm
  rw [← ht x hx]
  exact (congrArg Prod.snd hlabel).symm

theorem State.Act.slotsStand {s t : State} (h : State.Act s t) (hs : s.SlotsStand) : t.SlotsStand := by
  obtain ⟨hmap, hpower, hslots⟩ := hs
  refine ⟨h.mapAgrees hmap, h.power hpower, ?_⟩
  cases h with
  | raise | answer | link | control => exact hslots
  | move c u h =>
    intro d
    have hslot : (s.putSite c u).slotOf d = s.slotOf d := rfl
    rw [State.putSite_getElem, hslot]
    split
    next hd => rw [hd]; exact h.slots (hslots c)
    next => exact hslots d
  | admission r m rest c tag slot hq hr hc =>
    intro d
    have hslot : (r.admitted s c tag slot).slotOf d = s.slotOf d := rfl
    rw [BusRequest.admitted_getElem, hslot]
    split
    next hd =>
      intro e he
      rw [hd]
      rcases List.mem_append.1 he with he | he
      · exact hslots c e he
      · rw [List.mem_singleton.1 he]
        exact (State.slotOf_of_resolve hmap.1 hc).symm
    next => exact hslots d
  | remap table h =>
    obtain ⟨-, hblocked⟩ := State.mapRefusal_eq_none.1 h
    intro c
    have hslot : (s.remap table).slotOf c = slotIn table c := by rw [State.slotOf, State.remap_eq]
    rw [State.remap_getElem, (Connector.remapped_queue _ _ _).1, hslot]
    by_cases hne : s.slotOf c = slotIn table c
    · rw [← hne]; exact hslots c
    · have hoff := (ConnState.unpowered_of_not_blocksMap (hblocked c hne)).1
      obtain ⟨-, -, -, hq⟩ := (hpower c).unpowered hoff
      rw [hq]
      exact List.forall_mem_nil _

/-- Settles O12: a table is replaced whole with the connectors that leave and enter it, which hold no entries (R10, R12,
R14, R15). -/
theorem stepKeepsSlotMapRelation : Obligations.StepKeepsSlotMapRelation := by
  unfold Obligations.StepKeepsSlotMapRelation
  refine ⟨fun s t hs hstep => ?_, fun s t hmap hpower hslots hstep => ?_⟩ <;>
    obtain ⟨rest, ⟨hr, h⟩ | h | ⟨l, sources, rfl⟩ | ⟨straps, r, rfl⟩⟩ := step_pool hstep
  · exact h.keep (fun _ _ h => h.mapAgrees) hs
  · exact State.MapAgrees.congr (s := s) hs h.slotMap h.strapDisabled fun c => (h.conn c).unused
  · refine State.MapAgrees.congr (s := s) hs rfl rfl fun c => ?_
    rw [State.resetBegun_getElem]
    exact Iff.rfl
  · exact State.afterReset_mapAgrees _ _ _
  · have hon : ∀ c : ConnId, s.conns[c].PowerAgrees := by
      intro c
      have hoff : ¬s.resetting.isSome = true := by
        rw [show s.resetting = none from hr]
        exact Bool.false_ne_true
      exact (if_neg hoff).mp (hpower c)
    have hs : State.SlotsStand { s with pending := rest } := ⟨hmap, hon, hslots⟩
    exact (h.keep (fun _ _ h => h.slotsStand) hs).slots
  · intro c
    rw [(h.conn c).queue, State.slotOf, h.slotMap]
    exact hslots c
  · intro c
    rw [State.resetBegun_getElem]
    exact List.forall_mem_nil _
  · intro c
    rw [State.afterReset_getElem, Connector.afterReset_queue]
    exact List.forall_mem_nil _

/-! ### At reset (O3) -/

theorem State.reset_getElem (c : ConnId) : State.reset.conns[c] = Connector.initial := by
  simp [State.reset]

/-- Settles O3: every connector is EMPTY with its engine OFF and nothing queued, the map is the identity, and the link is
in START with nothing held (R180). -/
theorem invariantsHoldAtReset : Obligations.InvariantsHoldAtReset := by
  unfold Obligations.InvariantsHoldAtReset
  have hmap : State.reset.slotMap = defaultMap 0 := rfl
  have hnamed : ∀ c : ConnId, c ∈ namedIn State.reset.slotMap := fun c => by
    rw [hmap, namedIn_defaultMap, mem_enabledConns]
    simp
  have htags : ∀ c : ConnId, State.reset.conns[c].tags = [] := fun c => by rw [State.reset_getElem]; rfl
  refine ⟨?_, ?_, ?_, fun c => ?_, fun c => ?_, fun c => ?_, fun _ c => ?_, ?_, fun c => ?_, ?_, Link.tidy_initial, ?_⟩
  · exact ⟨by decide, by decide, by decide, fun c => ⟨Nat.zero_le _, Nat.zero_le _⟩⟩
  · refine (State.tagsDistinct_iff _).2 ⟨fun c => ?_, fun c _ tag hc => ?_, fun c tag hc => ?_⟩
    · rw [htags]; exact List.nodup_nil
    · rw [htags] at hc; exact absurd hc List.not_mem_nil
    · rw [htags] at hc; exact absurd hc List.not_mem_nil
  · refine ⟨?_, fun c => ?_⟩
    · have hpool : State.reset.poolUsed = 0 := rfl
      rw [hpool]
      exact Nat.zero_le _
    · rw [State.reset_getElem]
      exact ⟨Nat.zero_le _, by decide⟩
  · rw [State.reset_getElem]
    exact ⟨Connector.startedInOrder_of_empty rfl, Connector.oneActive_of_off rfl rfl⟩
  · rw [State.reset_getElem]
    exact Connector.powerAgrees_of_unpowered rfl rfl rfl rfl rfl
  · rw [State.reset_getElem]
    exact ⟨by decide, fun _ => by decide⟩
  · rw [State.reset_getElem]
    decide
  · refine ⟨?_, fun c _ => ?_, fun c => ?_⟩
    · rw [hmap, namedIn_defaultMap]
      exact allConns_nodup.filter _
    · exact BitVec.getLsbD_zero
    · rw [State.reset_getElem]
      exact iff_of_false ConnState.noConfusion (not_not.2 (hnamed c))
  · rw [State.reset_getElem]
    exact List.forall_mem_nil _
  · exact Link.windowAgrees_of_empty rfl
  · exact ⟨rfl, nofun, rfl⟩

end Sys2Proof.Machine
end

section
/-! PROOFS. Response places, the connector a command is about, and device resets in progress (O16, O18, O21). -/

namespace Sys2Proof.Machine

/-! ### Response places of one connector (R64, R65) -/

/-- The response places a connector's site accounts for: one for each tracked entry, and those of the Response Queue. -/
def Site.places (t : Site) : Nat := t.conn.tracked + t.out.responses.length

/-- A change of one entry that leaves its kind. -/
theorem countP_updateFirst (r : Entry → Bool) {f : Entry → Entry} {p : Entry → Bool} (hf : ∀ e, p (f e) = p e)
    (q : List Entry) : (updateFirst r f q).countP p = q.countP p := by
  induction q with
  | nil => rfl
  | cons e q ih => simp only [updateFirst]; split <;> simp [List.countP_cons, hf, ih]

/-- An end frees a tracked entry's reservation for its response (R64, R88, R89). -/
theorem Outbound.afterEnd_places (o : Outbound) (c : ConnId) (e : Entry) (status : Status) (data : List Byte) :
    (o.afterEnd c e status data).responses.length = o.responses.length + if e.posted then 0 else 1 := by
  rw [Outbound.afterEnd_responses]
  cases e.posted <;> simp

/-- A sweep frees the reservation of every tracked entry for its response (R95). -/
theorem foldl_afterEnd_places (q : List Entry) (c : ConnId) (status : Status) (o : Outbound) :
    (q.foldl (fun o e => o.afterEnd c e status []) o).responses.length =
      o.responses.length + q.countP fun e => !e.posted := by
  induction q generalizing o with
  | nil => rfl
  | cons e q ih =>
    rw [List.foldl_cons, ih, Outbound.afterEnd_places, List.countP_cons]
    cases e.posted <;> simp
    omega

theorem Site.powerCut_settle_places (t : Site) (status : Status) (dest : ConnState) (cause : Cause) (counter : Fin 2) :
    ((t.powerCut status).settle dest cause counter).places = t.places := by
  rw [Site.powerCut_settle, Site.places, Site.places, Outbound.raise_responses, Connector.sweepInto, foldl_afterEnd_places]
  change 0 + (_ + t.conn.tracked) = _
  omega

theorem Site.drainCheck_places (t : Site) : t.drainCheck.places = t.places := by
  obtain ⟨-, -, h⟩ | ⟨-, h⟩ := t.drainCheck_cases <;> rw [h]
  exact t.powerCut_settle_places _ _ _ _

/-- An entry that leaves the queue takes its reservation along. -/
theorem Connector.tracked_without {k : Connector} (hd : k.tags.Nodup) {e : Entry} (he : e ∈ k.queue) :
    (k.without e.tag).tracked + (if e.posted then 0 else 1) = k.tracked := by
  obtain ⟨older, younger, hq⟩ := List.append_of_mem he
  have ho : ∀ x ∈ older, (x.tag == e.tag) = false := tag_ne_of_nodup (by rw [Connector.tags, hq] at hd; exact hd)
  rw [Connector.tracked, Connector.tracked, Connector.without, hq, eraseP_append_cons ho (by simp)]
  rw [List.countP_append, List.countP_append, List.countP_cons]
  cases e.posted <;> simp
  omega

/-- An end outside a sweep (R87). -/
theorem Site.endEntry_places {t : Site} (hd : t.conn.tags.Nodup) {e : Entry} (he : e ∈ t.conn.queue) (acked : Nat)
    (status : Status) (data : List Byte) : (t.endEntry { e with acked } status data).places = t.places := by
  have hleaves := Connector.tracked_without hd he
  have hreport := t.out.afterEnd_places t.id { e with acked } status data
  have hposted : ({ e with acked } : Entry).posted = e.posted := rfl
  rw [hposted] at hreport
  rw [Site.endEntry, Site.drainCheck_places, Site.reportEnd_eq]
  change (t.conn.without e.tag).tracked + (t.out.afterEnd t.id { e with acked } status data).responses.length = _
  rw [hreport, Site.places]
  omega

theorem Site.attentionCheck_places (t : Site) : t.attentionCheck.places = t.places := by
  unfold Site.attentionCheck
  split
  next => exact congrArg (t.conn.tracked + ·) (congrArg List.length (Outbound.raise_responses _ _))
  next => rfl

theorem Site.enter_places (t : Site) (dest : ConnState) (cause : Cause) : (t.enter dest cause).places = t.places :=
  congrArg (t.conn.tracked + ·) (congrArg List.length (Outbound.raise_responses _ _))

/-- A site with a queue whose entries are of the same kinds. -/
theorem Site.places_updateFirst {t u : Site} (hout : u.out = t.out) {r : Entry → Bool} {f : Entry → Entry}
    (hq : u.conn.queue = updateFirst r f t.conn.queue) (hf : ∀ e, (f e).posted = e.posted) : u.places = t.places := by
  rw [Site.places, Site.places, hout, Connector.tracked, Connector.tracked, hq,
    countP_updateFirst r (p := fun e => !e.posted) (fun e => by simp only [hf e])]

/-- No move takes or frees a response place (R64, R120). -/
theorem Site.Move.places {t u : Site} (h : Site.Move t u) (hd : t.conn.tags.Nodup) : u.places = t.places := by
  cases h with
  | presence => rw [Site.places, Site.presenceInput_conn]; rfl
  | attention => rw [Site.places, Site.attnInput_conn]; rfl
  | configure | unqualify | window | beginTransfer | leaveWork => rfl
  | steady | arm => rw [Site.attentionCheck_places]; rfl
  | review oc pg inrush hi hq =>
    obtain ⟨_, hconn, -⟩ := Site.reviewFault_conn (u := t.setConn _) hq
    rw [Site.places, hconn, Site.reviewFault_out (u := t.setConn _) hq]
    rfl
  | cut => rw [Site.powerCut_settle_places]; rfl
  | cutToRetry oc pg inrush qualify status cause delay hp u hu =>
    have hsame : (u.setConn { u.conn with cooldown := some delay }).places = u.places := rfl
    rw [hsame, hu, Site.powerCut_settle_places]
    rfl
  | settle debounce dest cause => rw [Site.settle, Site.enter_places]; rfl
  | powerUp | drain => rw [Site.enter_places]; try rfl
  | powerGood => rw [Site.attentionCheck_places, Site.enter_places]; rfl
  | resume => rw [Site.attentionCheck_places, Site.enter_places]
  | start e lines hm hc he =>
    rw [t.launch_eq e lines (kind_ne_fence_of_endsAtStart he)]
    exact Site.places_updateFirst (f := fun e => { e with state := .active, acked := 0 }) rfl rfl fun _ => rfl
  | byte a a' => exact Site.places_updateFirst (f := fun e => { e with acked := a'.completed }) rfl rfl fun _ => rfl
  | backoff a e timer =>
    exact Site.places_updateFirst
      (f := fun e =>
        { e with
          state := .backoff, acked := 0, retriesUsed := e.retriesUsed.map fun used => used + 1, retryTimer := timer })
      rfl rfl fun _ => rfl
  | retry =>
    exact Site.places_updateFirst (f := fun e => { e with state := .waiting, retryTimer := none }) rfl rfl fun _ => rfl
  | endEntry e acked status data he => exact Site.endEntry_places hd he acked status data
  | endWork e acked status data engine he =>
    exact Site.endEntry_places (t := t.setConn (t.conn.dropWork engine)) hd he acked status data

/-! ### Response places of the part (R120) -/

theorem State.placesInUse_eq (s : State) :
    s.placesInUse = s.admissionQueue.length + s.total Connector.tracked + s.out.responses.length := rfl

/-- A connector and the Outbound Unit replaced. -/
theorem State.placesInUse_putSite {s : State} {c : ConnId} {u : Site} (h : u.places = (s.site c).places) :
    (s.putSite c u).placesInUse = s.placesInUse := by
  have htotal : (s.putSite c u).total Connector.tracked + s.conns[c].tracked = s.total Connector.tracked + u.conn.tracked :=
    s.total_withConn c u.conn Connector.tracked
  change u.conn.tracked + u.out.responses.length = s.conns[c].tracked + s.out.responses.length at h
  have hqueue : (s.putSite c u).admissionQueue = s.admissionQueue := rfl
  have hout : (s.putSite c u).out = u.out := rfl
  rw [State.placesInUse_eq, State.placesInUse_eq, hqueue, hout]
  omega

/-- A message taken hands its place to its response. -/
theorem State.placesInUse_answer {s : State} {m : Message} {rest : List Message} (hq : s.admissionQueue = m :: rest)
    (r : Response) : (s.taken.respond r).placesInUse = s.placesInUse := by
  have hlen : (s.taken.respond r).admissionQueue.length + 1 = s.admissionQueue.length := by
    rw [State.respond_admissionQueue, State.taken_admissionQueue, hq]
    rfl
  have hres : (s.taken.respond r).out.responses.length = s.out.responses.length + 1 := List.length_append
  have htotal : (s.taken.respond r).total Connector.tracked = s.total Connector.tracked := rfl
  rw [State.placesInUse_eq, State.placesInUse_eq, hres, htotal]
  omega

/-- An admitted request's place is its entry's reservation, or its response's (R64). -/
theorem BusRequest.admitted_placesInUse {r : BusRequest} {s : State} {m : Message} {rest : List Message}
    (hq : s.admissionQueue = m :: rest) (c : ConnId) (tag slot : Byte) :
    (r.admitted s c tag slot).placesInUse = s.placesInUse := by
  have hlen : (r.admitted s c tag slot).admissionQueue.length + 1 = s.admissionQueue.length := by
    rw [BusRequest.admitted, State.withOut_admissionQueue, State.withConn_admissionQueue, State.taken_admissionQueue, hq]
    rfl
  have htotal : (r.admitted s c tag slot).total Connector.tracked + s.conns[c].tracked =
      s.total Connector.tracked + (s.conns[c].queue ++ [r.entry s.conns[c] tag slot]).countP fun e => !e.posted :=
    s.taken.total_withConn c _ Connector.tracked
  have hentry : (s.conns[c].queue ++ [r.entry s.conns[c] tag slot]).countP (fun e => !e.posted) =
      s.conns[c].tracked + if r.kind = .postWrite then 0 else 1 := by
    rw [List.countP_append, Connector.tracked, List.countP_singleton]
    have hposted : (r.entry s.conns[c] tag slot).posted = r.kind.posted := rfl
    rw [hposted]
    cases r.kind <;> rfl
  have hres : (r.admitted s c tag slot).out.responses.length =
      s.out.responses.length + if r.kind = .postWrite then 1 else 0 := by
    change (r.outAfter s c tag slot).responses.length = _
    unfold BusRequest.outAfter
    split
    next => exact List.length_append
    next => rfl
  rw [hentry] at htotal
  rw [State.placesInUse_eq, State.placesInUse_eq, hres]
  by_cases hk : r.kind = .postWrite
  · rw [if_pos hk] at htotal ⊢
    omega
  · rw [if_neg hk] at htotal ⊢
    omega

theorem Outbound.remapped_responses (o : Outbound) (c : ConnId) (k : Connector) (before after : Nat) :
    (o.remapped c k before after).responses = o.responses := by
  unfold Outbound.remapped
  split
  next => exact Outbound.raise_responses _ _
  next =>
    split
    next => exact Outbound.raise_responses _ _
    next => rfl

theorem State.remap_responses (s : State) (table : Vector (Option ConnId) 8) :
    (s.remap table).out.responses = s.out.responses := by
  have hfold : ∀ (cs : List ConnId) (o : Outbound),
      (cs.foldl (fun o c => o.remapped c s.conns[c] (s.slotOf c) (slotIn table c)) o).responses = o.responses := by
    intro cs
    induction cs with
    | nil => exact fun o => rfl
    | cons c cs ih => exact fun o => (ih _).trans (Outbound.remapped_responses _ _ _ _ _)
  rw [State.remap_eq]
  exact hfold allConns s.out

/-- Acts leave the number of response places in use (R64, R120). -/
theorem State.Act.placesInUse {s t : State} (h : State.Act s t) (hd : s.TagsDistinct) :
    t.placesInUse = s.placesInUse := by
  cases h with
  | move c u h => exact State.placesInUse_putSite (h.places (hd.conn c))
  | raise e => exact congrArg (_ + List.length ·) (Outbound.raise_responses _ _)
  | answer m rest r hq => exact State.placesInUse_answer hq r
  | admission r m rest c tag slot hq => exact BusRequest.admitted_placesInUse hq c tag slot
  | link | control => rfl
  | remap table =>
    have htotal : (s.remap table).total Connector.tracked = s.total Connector.tracked := by
      refine State.total_congr fun c => ?_
      rw [State.remap_getElem, Connector.tracked, (Connector.remapped_queue _ _ _).1]
      rfl
    have hqueue : (s.remap table).admissionQueue = s.admissionQueue := by rw [State.remap_eq]
    rw [State.placesInUse_eq, State.placesInUse_eq, htotal, hqueue, State.remap_responses]

theorem State.Acts.placesInUse {s t : State} (h : State.Acts s t) (hd : s.TagsDistinct) :
    t.placesInUse = s.placesInUse := by
  have hboth : t.TagsDistinct ∧ t.placesInUse = s.placesInUse := by
    induction h with
    | refl => exact ⟨hd, rfl⟩
    | tail _ h ih => exact ⟨h.tagsDistinct ih.1, (h.placesInUse ih.1).trans ih.2⟩
  exact hboth.2

/-- A framing frees the place of the response it takes (R134). -/
theorem State.frameOne_placesInUse (s : State) :
    s.frameOne.placesInUse = s.placesInUse ∨ s.frameOne.placesInUse + 1 = s.placesInUse := by
  obtain h | ⟨-, ⟨e, rest, -, -, h⟩ | ⟨r, rest, hq, -, h⟩⟩ := s.frameOne_cases <;> rw [h]
  · exact .inl rfl
  · have hres : s.out.framedEvent.responses = s.out.responses := by
      unfold Outbound.framedEvent
      split <;> rfl
    exact .inl (congrArg (_ + List.length ·) hres)
  · refine .inr ?_
    have hres : s.out.framedResponse.responses.length + 1 = s.out.responses.length := by
      rw [Outbound.framedResponse, hq]
      rfl
    change s.admissionQueue.length + s.total Connector.tracked + s.out.framedResponse.responses.length + 1 =
      s.admissionQueue.length + s.total Connector.tracked + s.out.responses.length
    omega

/-- Settles O16: DATA_FRAME brings a message with its place, FRAME_SCHEDULE frees a response's, and every other command
hands places on. -/
theorem responsePlacesConserved : Obligations.ResponsePlacesConserved := by
  unfold Obligations.ResponsePlacesConserved
  intro i s t hd hs ht hexec
  have hkept : t.placesInUse = s.placesInUse →
      ((∀ raw, i ≠ .dataFrame raw) → i ≠ .frameSchedule → t.placesInUse = s.placesInUse) ∧
        (∀ raw, i = .dataFrame raw →
          t.placesInUse = s.placesInUse ∨ (s.placesInUse < 64 ∧ t.placesInUse = s.placesInUse + 1)) ∧
        (i = .frameSchedule → t.placesInUse = s.placesInUse ∨ t.placesInUse + 1 = s.placesInUse) :=
    fun h => ⟨fun _ _ => h, fun _ _ => .inl h, fun _ => .inl h⟩
  cases effect_of_exec hexec with
  | acts _ h => exact hkept (h.placesInUse hd)
  | held | synced | wentDown => exact hkept rfl
  | levels _ _ _ _ _ hr | resetJoined _ _ _ hr | resetEnds _ _ hr => rw [hs] at hr; simp at hr
  | accepted raw payload _ _ hp =>
    refine ⟨fun h => absurd rfl (h raw), fun _ _ => .inr ⟨hp, ?_⟩, nofun⟩
    rw [State.placesInUse_eq, State.placesInUse_eq]
    change (s.admissionQueue ++ [payload]).length + s.total Connector.tracked + _ = _
    rw [List.length_append, List.length_singleton, State.withLink_out]
    omega
  | framed => exact ⟨fun _ h => absurd rfl h, nofun, fun _ => s.frameOne_placesInUse⟩
  | restartWaits m rest tag _ hq => exact hkept (State.placesInUse_answer hq ⟨0x03, tag, .ok, .empty⟩)
  | resetBegins => cases ht

/-! ### Commands of one connector (O18) -/

/-- A command of one connector's blocks changes that connector and the Outbound Unit at most (R1). -/
theorem State.onSite_frame {s t : State} {c : ConnId} {f : Site → Site}
    (h : s.whenRunning (fun s => s.onSite c f) = .next t) : ∃ k o, t = (s.withConn c k).withOut o := by
  by_cases hr : s.resetting = none
  · rw [State.whenRunning_running hr] at h
    exact ⟨_, _, (Host.Outcome.next.inj h).symm⟩
  · rw [State.whenRunning_resetting hr] at h
    refine ⟨s.conns[c], s.out, ?_⟩
    rw [State.withConn_self]
    exact (Host.Outcome.next.inj h).symm

theorem State.inputChange_frame {s t : State} {c : ConnId} {level : Connector → Connector} {f : Site → Site}
    (h : s.inputChange c level f = .next t) : ∃ k o, t = (s.withConn c k).withOut o := by
  rw [← Host.Outcome.next.inj h]
  split <;> exact ⟨_, _, rfl⟩

/-- A timer of an entry changes the connector that holds it and the Outbound Unit at most (R72). -/
theorem State.onEntry_frame {s t : State} {tag : Byte} {f : Site → Entry → Site}
    (h : s.whenRunning (fun s => s.onEntry tag f) = .next t) :
    if tag ∈ s.tags then ∃ c k o, (∃ e ∈ s.conns[c].queue, e.tag = tag) ∧ t = (s.withConn c k).withOut o else t = s := by
  cases hh : s.tagHolder tag with
  | none =>
    rw [if_neg ((s.tagHolder_eq_none tag).1 hh)]
    by_cases hr : s.resetting = none
    · rw [State.whenRunning_running hr, State.onEntry, hh] at h
      exact (Host.Outcome.next.inj h).symm
    · rw [State.whenRunning_resetting hr] at h
      exact (Host.Outcome.next.inj h).symm
  | some c =>
    have hmem := State.tagHolder_some hh
    rw [if_pos ((s.mem_tags tag).2 ⟨c, hmem⟩)]
    have hsite : s.whenRunning (fun s => s.onEntry tag f) =
        s.whenRunning fun s => s.onSite c fun t =>
          match t.conn.entryOf tag with
          | some e => f t e
          | none => t := by
      by_cases hr : s.resetting = none
      · rw [State.whenRunning_running hr, State.whenRunning_running hr]
        refine congrArg Host.Outcome.next ?_
        rw [State.onEntry, hh] <;> rfl
      · rw [State.whenRunning_resetting hr, State.whenRunning_resetting hr]
    obtain ⟨k, o, ht⟩ := State.onSite_frame (hsite.symm.trans h)
    exact ⟨c, k, o, List.mem_map.1 hmem, ht⟩

/-- Settles O18: each such command is an action of one connector's blocks (R1, R72). -/
theorem connectorsAreIndependent : Obligations.ConnectorsAreIndependent := by
  unfold Obligations.ConnectorsAreIndependent
  refine ⟨fun i c s t hc hexec => ?_, fun i tag lines s t hi hexec => ?_⟩
  · cases i with
    | presenceInputChange d a =>
      obtain rfl := Option.some.inj hc
      exact State.inputChange_frame (show execPresenceInputChange d a s = .next t from hexec)
    | ocInputChange d a =>
      obtain rfl := Option.some.inj hc
      exact State.inputChange_frame (show execOcInputChange d a s = .next t from hexec)
    | pgInputChange d a lines =>
      obtain rfl := Option.some.inj hc
      exact State.inputChange_frame (show execPgInputChange d a lines s = .next t from hexec)
    | attnInputChange d a =>
      obtain rfl := Option.some.inj hc
      exact State.inputChange_frame (show execAttnInputChange d a s = .next t from hexec)
    | presenceDebounceExpiry | inrushTimerExpiry | qualifyTimerExpiry | pgDeadlineExpiry | retryDelayExpiry
    | recurrenceWindowExpiry | attentionSteady | byteCompleted | attemptOutcome | stretchLimit | busClearEnd | abortEnd
    | pulseTimerExpiry =>
      obtain rfl := Option.some.inj hc
      exact State.onSite_frame hexec
    | _ => cases hc
  · obtain rfl | rfl := hi
    · exact State.onEntry_frame hexec
    · exact State.onEntry_frame hexec

/-! ### While a device reset lasts (O21) -/

/-- Settles O21: the effects that are possible in a device reset other than its own are none, and recording levels (R7,
R178). -/
theorem deviceResetHoldsEverything : Obligations.DeviceResetHoldsEverything := by
  unfold Obligations.DeviceResetHoldsEverything
  intro i s hr hbegin hend
  obtain ⟨t, ht, he⟩ := exec_effect i s
  have hstands : ∀ c : ConnId, ∃ pres oc pg attn,
      s.conns[c] =
        { s.conns[c] with presAsserted := pres, ocAsserted := oc, pgAsserted := pg, attnAsserted := attn } :=
    fun c => ⟨_, _, _, _, rfl⟩
  cases he with
  | acts hn | accepted _ _ hn | framed hn | synced _ hn | wentDown _ _ hn | restartWaits _ _ _ hn
  | resetBegins _ _ hn => exact absurd hn hr
  | resetJoined source => exact absurd rfl (hbegin source)
  | resetEnds straps => exact absurd rfl (hend straps)
  | held => exact ⟨s.conns, ht, hstands⟩
  | levels c pres oc pg attn =>
    refine
      ⟨(s.withConn c
        { s.conns[c] with presAsserted := pres, ocAsserted := oc, pgAsserted := pg, attnAsserted := attn }).conns,
        ht, fun d => ?_⟩
    rw [State.withConn_getElem]
    split
    next hd => rw [hd]; exact ⟨pres, oc, pg, attn, rfl⟩
    next => exact hstands d

end Sys2Proof.Machine
end

section
/-! PROOFS. The supervisor's actions on the whole part, in the terms of the statements, and the obligations on inputs,
presence, power-up, faults and attention (O28, O29, O30, O31, O32, O33). -/

namespace Sys2Proof.Machine

/-! ### Actions of one connector's blocks on the whole part -/

/-- The connector's blocks change the connector alone. -/
theorem State.onSite_setConn (s : State) (c : ConnId) (g : Connector → Connector) :
    (s.onSite c fun t => t.setConn (g t.conn)) = s.withConn c (g s.conns[c]) := rfl

/-- A change of the connector, then another action of its blocks. -/
theorem State.onSite_setConn_then (s : State) (c : ConnId) (g : Connector → Connector) (f : Site → Site) :
    (s.onSite c fun t => f (t.setConn (g t.conn))) = (s.withConn c (g s.conns[c])).onSite c f := by
  rw [← State.onSite_setConn, State.onSite_onSite f rfl]

/-- What follows an entry into ON (R45, R77). -/
theorem State.onSite_nowOn (s : State) (c : ConnId) (lines : BusLines) :
    (s.onSite c fun t => t.nowOn lines) = (s.attended c).started c lines := by
  rw [← State.onSite_attentionCheck, State.started, State.onSite_onSite _ (Site.attentionCheck_place _)]
  rfl

/-- POWERING goes to ON as PG is seen (R29). -/
theorem State.onSite_powerGood (s : State) (c : ConnId) (lines : BusLines) :
    (s.onSite c fun t => t.powerGood lines) = s.cameOn c lines := by
  let came := fun t : Site =>
    (t.setConn
      { t.conn with
        pgDeadline := none, mrst := false, engine := .idle,
        cooldown :=
          if t.conn.faultCounter = 1 then some (10 * t.conn.config.recurrenceWindow) else t.conn.cooldown }).enter
      .on .powerGood
  have h := State.onSite_onSite (s := s) (c := c) (f := came) (fun t => t.nowOn lines) rfl
  rw [State.onSite_nowOn] at h
  exact h.symm

/-- Entry into POWERING, and on to ON where PG is asserted already (R28, R29). -/
theorem State.onSite_powerUp (s : State) (c : ConnId) (cause : Cause) (lines : BusLines) :
    (s.onSite c fun t => t.powerUp cause lines) =
      if s.conns[c].pgAsserted then (s.poweredUp c cause).cameOn c lines else s.poweredUp c cause := by
  let up := fun t : Site =>
    (t.setConn
      { t.conn with
        pen := true, mrst := true, inrush := some t.conn.config.inrushMs,
        pgDeadline := some t.conn.config.pgDeadlineMs, cooldown := none }).enter .powering cause
  have hup : s.onSite c up = s.poweredUp c cause := rfl
  by_cases hpg : s.conns[c].pgAsserted = true
  · have hsite : (s.site c).powerUp cause lines = (up (s.site c)).powerGood lines := if_pos hpg
    rw [if_pos hpg, ← hup, ← State.onSite_powerGood, State.onSite_onSite (fun t => t.powerGood lines) rfl]
    exact State.onSite_congr hsite
  · have hsite : (s.site c).powerUp cause lines = up (s.site c) := if_neg hpg
    rw [if_neg hpg, ← hup]
    exact State.onSite_congr hsite

/-- A qualified fault is taken where there is power (R33, R34). -/
theorem State.onSite_takeFault {s : State} {c : ConnId} (cause : Cause) (hp : s.conns[c].state.powered = true) :
    (s.onSite c fun t => t.takeFault cause) = s.afterFault c cause := by
  unfold State.afterFault
  obtain h | h := (ConnState.powered_iff _).1 hp
  · have hne : s.conns[c].state ≠ .draining := by
      obtain h | h := h <;> rw [h] <;> exact ConnState.noConfusion
    rw [if_neg hne]
    by_cases hr : s.conns[c].config.autoRetry = true ∧ s.conns[c].faultCounter = 0
    · rw [if_pos hr, State.onSite_eq, Site.takeFault_of_retry (t := s.site c) cause h hr, Site.powerCut_settle]
      simp [State.cutTo, State.moveEvent, State.withConn, State.withOut, Site.setConn]
    · rw [if_neg hr, ← State.onSite_powerCut_settle]
      exact State.onSite_congr (Site.takeFault_of_latch cause h hr)
  · rw [if_pos h, ← State.onSite_powerCut_settle]
    exact State.onSite_congr (Site.takeFault_of_draining cause h)

/-- A fault taken stops the qualify timer in any case (R18). -/
theorem State.afterFault_withConn_qualify (s : State) (c : ConnId) (qualify : Timer) (cause : Cause) :
    (s.withConn c { s.conns[c] with qualify }).afterFault c cause = s.afterFault c cause := by
  have hcut : ∀ status dest counter,
      (s.withConn c { s.conns[c] with qualify }).cutTo c status dest cause counter =
        s.cutTo c status dest cause counter := by
    intro status dest counter
    rw [State.cutTo, State.cutTo, State.moveEvent, State.moveEvent, State.withConn_getElem_self, State.withConn_withConn]
    rfl
  simp only [State.afterFault, State.withConn_getElem_self, hcut]
  rfl

/-! ### Running a command of one connector -/

theorem State.inputChange_of_running {s : State} {c : ConnId} (hr : s.resetting = none) (level : Connector → Connector)
    (f : Site → Site) : s.inputChange c level f = .next (s.onSite c f) := by
  rw [State.inputChange, hr]
  rfl

theorem State.inputChange_of_resetting {s : State} {c : ConnId} (hr : s.resetting ≠ none)
    (level : Connector → Connector) (f : Site → Site) :
    s.inputChange c level f = .next (s.withConn c (level s.conns[c])) := by
  obtain ⟨r, hr⟩ := Option.ne_none_iff_exists'.1 hr
  rw [State.inputChange, hr]
  rfl

/-- An action whose effect on the site is to replace the connector. -/
theorem State.onSite_of_setConn {s : State} {c : ConnId} {f : Site → Site} {k : Connector}
    (h : f (s.site c) = (s.site c).setConn k) : s.onSite c f = s.withConn c k := by
  rw [State.onSite_eq, h]
  rfl

/-! ### The commands of inputs and supervisor timers, outside a device reset -/

section
variable {c : ConnId} {s : State} (hr : s.resetting = none) (a : Bool) (lines : BusLines)
include hr

theorem exec_presenceInputChange :
    exec (.presenceInputChange c a) s = .next (s.onSite c fun t => t.presenceInput a) := by
  change execPresenceInputChange c a s = _
  exact State.inputChange_of_running hr _ _

theorem exec_attnInputChange : exec (.attnInputChange c a) s = .next (s.onSite c fun t => t.attnInput a) := by
  change execAttnInputChange c a s = _
  exact State.inputChange_of_running hr _ _

theorem exec_presenceDebounceExpiry (hd : s.conns[c].debounce.isSome = true) (hm : s.conns[c].state ≠ .unused) :
    exec (.presenceDebounceExpiry c lines) s =
      .next
        ((s.withConn c { s.conns[c] with debounce := none }).onSite c fun t =>
          if t.conn.state = .empty then t.insertion lines else t.removal) := by
  change execPresenceDebounceExpiry c lines s = _
  rw [execPresenceDebounceExpiry, State.whenRunning_running hr,
    ← State.onSite_setConn_then s c fun k => { k with debounce := none }]
  refine congrArg Host.Outcome.next (State.onSite_congr (if_pos ⟨hd, ?_⟩))
  exact bne_iff_ne.2 hm

theorem exec_retryDelayExpiry (hc : s.conns[c].cooldown.isSome = true) (hs : s.conns[c].state = .cooldown) :
    exec (.retryDelayExpiry c lines) s = .next (s.onSite c fun t => t.powerUp .retry lines) := by
  change execRetryDelayExpiry c lines s = _
  rw [execRetryDelayExpiry, State.whenRunning_running hr]
  exact congrArg Host.Outcome.next (State.onSite_congr (if_pos ⟨hc, hs⟩))

theorem exec_recurrenceWindowExpiry (hc : s.conns[c].cooldown.isSome = true) (hs : s.conns[c].state.usable = true) :
    exec (.recurrenceWindowExpiry c) s =
      .next (s.withConn c { s.conns[c] with cooldown := none, faultCounter := 0 }) := by
  change execRecurrenceWindowExpiry c s = _
  rw [execRecurrenceWindowExpiry, State.whenRunning_running hr]
  exact congrArg Host.Outcome.next (State.onSite_of_setConn (if_pos ⟨hc, hs⟩))

/-- PG in POWERING is the way to ON (R29). -/
theorem exec_pgInputChange_of_powering (hs : s.conns[c].state = .powering) :
    exec (.pgInputChange c a lines) s =
      .next
        (let seen := s.withConn c { s.conns[c] with pgAsserted := a }
        if a then seen.cameOn c lines else seen) := by
  change execPgInputChange c a lines s = _
  rw [execPgInputChange, State.inputChange_of_running hr]
  refine congrArg Host.Outcome.next ?_
  cases a with
  | true =>
    change _ = (s.withConn c { s.conns[c] with pgAsserted := true }).cameOn c lines
    rw [← State.onSite_powerGood, ← State.onSite_setConn_then s c fun k => { k with pgAsserted := true }]
    exact State.onSite_congr (if_pos hs)
  | false => exact State.onSite_of_setConn (if_pos hs)

/-- PG elsewhere is reviewed for the fault condition (R4, R32). -/
theorem exec_pgInputChange_of_not_powering (hs : s.conns[c].state ≠ .powering) :
    exec (.pgInputChange c a lines) s =
      .next
        ((s.withConn c { s.conns[c] with pgAsserted := a }).onSite c fun t =>
          t.reviewFault s.conns[c].faultCondition) := by
  change execPgInputChange c a lines s = _
  rw [execPgInputChange, State.inputChange_of_running hr,
    ← State.onSite_setConn_then s c fun k => { k with pgAsserted := a }]
  exact congrArg Host.Outcome.next (State.onSite_congr (if_neg hs))

theorem exec_ocInputChange :
    exec (.ocInputChange c a) s =
      .next
        ((s.withConn c { s.conns[c] with ocAsserted := a }).onSite c fun t =>
          t.reviewFault s.conns[c].faultCondition) := by
  change execOcInputChange c a s = _
  rw [execOcInputChange, State.inputChange_of_running hr,
    ← State.onSite_setConn_then s c fun k => { k with ocAsserted := a }]
  rfl

theorem exec_inrushTimerExpiry (hi : s.conns[c].inrush.isSome = true) :
    exec (.inrushTimerExpiry c) s =
      .next
        ((s.withConn c { s.conns[c] with inrush := none }).onSite c fun t =>
          t.reviewFault s.conns[c].faultCondition) := by
  change execInrushTimerExpiry c s = _
  rw [execInrushTimerExpiry, State.whenRunning_running hr,
    ← State.onSite_setConn_then s c fun k => { k with inrush := none }]
  exact congrArg Host.Outcome.next (State.onSite_congr (if_pos hi))

theorem exec_qualifyTimerExpiry (hp : s.conns[c].state.powered = true) (hq : s.conns[c].qualify.isSome = true) :
    exec (.qualifyTimerExpiry c) s = .next (s.afterFault c s.conns[c].faultCause) := by
  change execQualifyTimerExpiry c s = _
  rw [execQualifyTimerExpiry, State.whenRunning_running hr, ← State.afterFault_withConn_qualify s c none,
    ← State.onSite_takeFault, ← State.onSite_setConn_then s c fun k => { k with qualify := none }]
  · exact congrArg Host.Outcome.next (State.onSite_congr (if_pos hq))
  · rw [State.withConn_getElem_self]; exact hp

theorem exec_pgDeadlineExpiry (hs : s.conns[c].state = .powering) (hd : s.conns[c].pgDeadline.isSome = true) :
    exec (.pgDeadlineExpiry c) s = .next (s.afterFault c .pgTimeout) := by
  change execPgDeadlineExpiry c s = _
  rw [execPgDeadlineExpiry, State.whenRunning_running hr, ← State.onSite_takeFault _ (by rw [hs]; rfl)]
  exact congrArg Host.Outcome.next (State.onSite_congr (if_pos ⟨hd, hs⟩))

theorem exec_attentionSteady (ha : s.conns[c].attnTimer.isSome = true) :
    exec (.attentionSteady c) s =
      .next ((s.withConn c { s.conns[c] with attnTimer := none, steady := true }).attended c) := by
  change execAttentionSteady c s = _
  rw [execAttentionSteady, State.whenRunning_running hr, ← State.onSite_attentionCheck,
    ← State.onSite_setConn_then s c fun k => { k with attnTimer := none, steady := true }]
  exact congrArg Host.Outcome.next (State.onSite_congr (if_pos ha))

end

/-! ### The review of the fault condition (R32) -/

section
variable {s : State} {c : ConnId} {k : Connector} {before : Bool}

/-- A condition that stands as it was moves nothing. -/
theorem State.reviewFault_of_same {b : Bool} (h : k.faultCondition = b) (hb : before = b) :
    ((s.withConn c k).onSite c fun t => t.reviewFault before) = s.withConn c k := by
  subst hb
  refine State.onSite_self ?_
  have hk : ((s.withConn c k).site c).conn.faultCondition = before := by
    rw [State.site_conn, State.withConn_getElem_self, h]
  unfold Site.reviewFault
  rw [hk]
  cases before <;> rfl

/-- A condition that appears starts the qualify timer. -/
theorem State.reviewFault_of_appears (hb : before = false) (h : k.faultCondition = true) (hq : k.config.qualifyMs ≠ 0) :
    ((s.withConn c k).onSite c fun t => t.reviewFault before) =
      s.withConn c { k with qualify := some k.config.qualifyMs } := by
  have hk : ((s.withConn c k).site c).conn = k := State.withConn_getElem_self s c k
  have hsite : ((s.withConn c k).site c).reviewFault before =
      ((s.withConn c k).site c).setConn { k with qualify := some k.config.qualifyMs } := by
    simp only [Site.reviewFault, hk, hb, h, if_neg hq]
  rw [State.onSite_of_setConn hsite, State.withConn_withConn]

/-- With qualify_ms 0 a condition that appears is qualified at once. -/
theorem State.reviewFault_of_qualified (hb : before = false) (h : k.faultCondition = true)
    (hq : k.config.qualifyMs = 0) :
    ((s.withConn c k).onSite c fun t => t.reviewFault before) = (s.withConn c k).afterFault c k.faultCause := by
  have hk : (s.withConn c k).conns[c] = k := State.withConn_getElem_self s c k
  rw [← State.onSite_takeFault _ (by rw [hk]; exact Connector.powered_of_faultCondition h)]
  refine State.onSite_congr ?_
  simp only [Site.reviewFault, State.site_conn, hk, hb, h, if_pos hq]

/-- A condition that disappears stops the qualify timer. -/
theorem State.reviewFault_of_ends (hb : before = true) (h : k.faultCondition = false) :
    ((s.withConn c k).onSite c fun t => t.reviewFault before) = s.withConn c { k with qualify := none } := by
  have hk : ((s.withConn c k).site c).conn = k := State.withConn_getElem_self s c k
  have hsite : ((s.withConn c k).site c).reviewFault before =
      ((s.withConn c k).site c).setConn { k with qualify := none } := by
    simp only [Site.reviewFault, hk, hb, h]
  rw [State.onSite_of_setConn hsite, State.withConn_withConn]

end

/-- Without power there is no fault condition (R32). -/
theorem Connector.faultCondition_of_unpowered {k : Connector} (h : k.state.powered = false) :
    k.faultCondition = false := by
  refine eq_false_of_ne_true fun hf => ?_
  rw [Connector.powered_of_faultCondition hf] at h
  cases h

/-! ### Inputs (R25, R45) -/

/-- Settles O28: the levels are recorded, and a mapped connector's presence and attention move their timers (R25, R45). -/
theorem inputChangesAreFollowed : Obligations.InputChangesAreFollowed := by
  unfold Obligations.InputChangesAreFollowed
  intro c a lines s k
  have hunused : k.state = .unused → ¬k.isMapped = true := fun h hm => bne_iff_ne.1 hm h
  refine ⟨fun hr hm => ?_, fun hr hm hne => ?_, fun h => ⟨?_, ?_⟩, fun h => ⟨?_, ?_⟩⟩
  · rw [exec_presenceInputChange hr]
    refine congrArg Host.Outcome.next (State.onSite_of_setConn ?_)
    exact congrArg (s.site c).setConn (if_pos (bne_iff_ne.2 hm))
  · rw [exec_attnInputChange hr]
    refine congrArg Host.Outcome.next (State.onSite_of_setConn ?_)
    exact congrArg (s.site c).setConn (if_pos ⟨bne_iff_ne.2 hm, hne.symm⟩)
  · by_cases hr : s.resetting = none
    · have hp : k.state.powered = false := h.resolve_left (not_not.2 hr)
      have hbefore : k.faultCondition = false := Connector.faultCondition_of_unpowered hp
      rw [exec_ocInputChange hr, hbefore]
      exact congrArg Host.Outcome.next
        (State.reviewFault_of_same (k := { k with ocAsserted := a }) (Connector.faultCondition_of_unpowered hp) rfl)
    · exact State.inputChange_of_resetting hr (fun k => { k with ocAsserted := a }) fun t => t.ocInput a
  · by_cases hr : s.resetting = none
    · have hp : k.state.powered = false := h.resolve_left (not_not.2 hr)
      have hne : k.state ≠ .powering := fun h => by rw [h] at hp; cases hp
      have hbefore : k.faultCondition = false := Connector.faultCondition_of_unpowered hp
      rw [exec_pgInputChange_of_not_powering hr a lines hne, hbefore]
      exact congrArg Host.Outcome.next
        (State.reviewFault_of_same (k := { k with pgAsserted := a }) (Connector.faultCondition_of_unpowered hp) rfl)
    · exact State.inputChange_of_resetting hr (fun k => { k with pgAsserted := a }) fun t => t.pgInput a lines
  · by_cases hr : s.resetting = none
    · rw [exec_presenceInputChange hr]
      refine congrArg Host.Outcome.next (State.onSite_of_setConn ?_)
      exact congrArg (s.site c).setConn (if_neg (hunused (h.resolve_left (not_not.2 hr))))
    · exact State.inputChange_of_resetting hr (fun k => { k with presAsserted := a }) fun t => t.presenceInput a
  · by_cases hr : s.resetting = none
    · rw [exec_attnInputChange hr]
      refine congrArg Host.Outcome.next (State.onSite_of_setConn ?_)
      exact congrArg (s.site c).setConn (if_neg fun hm => hunused (h.resolve_left (not_not.2 hr)) hm.1)
    · exact State.inputChange_of_resetting hr (fun k => { k with attnAsserted := a }) fun t => t.attnInput a

/-! ### Presence (R26, R27) -/

/-- An insertion taken on an EMPTY connector (R26, R28). -/
theorem State.onSite_insertion (s : State) (c : ConnId) (lines : BusLines) :
    (s.onSite c fun t => t.insertion lines) =
      let off := s.moved c .off .inserted 0
      if s.conns[c].config.autoPower then
        if s.conns[c].pgAsserted then (off.poweredUp c .autoOn).cameOn c lines else off.poweredUp c .autoOn
      else off := by
  have hread : (s.moved c .off .inserted 0).conns[c] = s.conns[c].settled .off 0 := State.withConn_getElem_self s c _
  have hpg : (s.moved c .off .inserted 0).conns[c].pgAsserted = s.conns[c].pgAsserted := by rw [hread]; rfl
  by_cases ha : s.conns[c].config.autoPower = true
  · have hsite : (s.site c).insertion lines = ((s.site c).settle .off .inserted 0).powerUp .autoOn lines := if_pos ha
    simp only [if_pos ha]
    rw [State.onSite_congr (g := fun t => (t.settle .off .inserted 0).powerUp .autoOn lines) hsite,
      ← State.onSite_onSite (f := fun t => t.settle .off .inserted 0) (fun t => t.powerUp .autoOn lines) rfl,
      State.onSite_settle, State.onSite_powerUp, hpg]
  · have hsite : (s.site c).insertion lines = (s.site c).settle .off .inserted 0 := if_neg ha
    simp only [if_neg ha]
    rw [← State.onSite_settle]
    exact State.onSite_congr hsite

/-- A removal taken where there is power: a power cut (R27). -/
theorem State.onSite_removal_of_powered {s : State} {c : ConnId} (h : s.conns[c].state.powered = true) :
    s.onSite c Site.removal = s.cutTo c .removed .empty .removed 0 := by
  rw [← State.onSite_powerCut_settle]
  exact State.onSite_congr (if_pos h)

/-- A removal taken elsewhere (R27). -/
theorem State.onSite_removal_of_unpowered {s : State} {c : ConnId} (h : s.conns[c].state.powered = false) :
    s.onSite c Site.removal = s.moved c .empty .removed 0 := by
  rw [← State.onSite_settle]
  exact State.onSite_congr (if_neg (by rw [State.site_conn, h]; exact Bool.false_ne_true))

/-- Settles O29: the debounce timer has ended, and the state decides what is taken (R26, R27). -/
theorem debounceExpiryTakesPresence : Obligations.DebounceExpiryTakesPresence := by
  unfold Obligations.DebounceExpiryTakesPresence
  intro c lines s hr hd k u powering
  have hu : u.conns[c] = { k with debounce := none } := State.withConn_getElem_self s c _
  have hins : k.state = .empty → (u.onSite c fun t => if t.conn.state = .empty then t.insertion lines else t.removal) =
      u.onSite c fun t => t.insertion lines :=
    fun h => State.onSite_congr (if_pos (by rw [State.site_conn, hu]; exact h))
  have hrem : k.state ≠ .empty → (u.onSite c fun t => if t.conn.state = .empty then t.insertion lines else t.removal) =
      u.onSite c Site.removal :=
    fun h => State.onSite_congr (if_neg (by rw [State.site_conn, hu]; exact h))
  refine ⟨fun hs ha => ?_, fun hs ha => ?_, fun hp => ?_, fun hs => ?_⟩
  · rw [exec_presenceDebounceExpiry hr lines hd (by rw [hs]; exact ConnState.noConfusion), hins hs, State.onSite_insertion,
      hu]
    simp only [ha, Bool.false_eq_true, if_false]
  · rw [exec_presenceDebounceExpiry hr lines hd (by rw [hs]; exact ConnState.noConfusion), hins hs, State.onSite_insertion,
      hu]
    simp only [ha, if_true]
    rfl
  · have hne : k.state ≠ .unused ∧ k.state ≠ .empty := by
      constructor <;> intro h <;> rw [h] at hp <;> cases hp
    rw [exec_presenceDebounceExpiry hr lines hd hne.1, hrem hne.2,
      State.onSite_removal_of_powered (by rw [hu]; exact hp)]
  · have hne : k.state ≠ .unused ∧ k.state ≠ .empty ∧ k.state.powered = false := by
      obtain h | h | h := hs <;> rw [h] <;> exact ⟨ConnState.noConfusion, ConnState.noConfusion, rfl⟩
    rw [exec_presenceDebounceExpiry hr lines hd hne.1, hrem hne.2.1,
      State.onSite_removal_of_unpowered (by rw [hu]; exact hne.2.2)]

/-! ### Power-up and the recurrence window (R29, R36, R37) -/

/-- Nothing starts from an empty queue. -/
theorem State.started_of_queue_nil {s : State} {c : ConnId} (lines : BusLines) (h : s.conns[c].queue = []) :
    s.started c lines = s :=
  State.onSite_self (Site.startDecision_empty (s.site c) lines h)

/-- No attention is due. -/
theorem State.attended_of_not_due {s : State} {c : ConnId} (h : (s.conns[c].armed && s.conns[c].steady) = false) :
    s.attended c = s := by
  refine if_neg fun hd => ?_
  obtain ⟨-, ha, hs⟩ := hd
  rw [ha, hs] at h
  cases h

/-- An entry into ON with nothing held and no attention due. -/
theorem State.cameOn_of_idle {s : State} {c : ConnId} {k : Connector} (lines : BusLines) (hq : k.queue = [])
    (hdue : (k.armed && k.steady) = false) :
    (s.withConn c k).cameOn c lines =
      (s.withConn c
        { k with
          state := .on, pgDeadline := none, mrst := false, engine := .idle,
          cooldown := if k.faultCounter = 1 then some (10 * k.config.recurrenceWindow) else k.cooldown }).withOut
        (s.out.raise ((s.withConn c k).moveEvent c .on .powerGood k.faultCounter)) := by
  have hread := fun (u : Connector) (o : Outbound) => State.withConn_getElem_self (s.withOut o) c u
  simp only [State.cameOn, State.withConn_getElem_self, State.withConn_withConn]
  rw [State.attended_of_not_due, State.started_of_queue_nil]
  · rfl
  · exact (congrArg Connector.queue (hread _ _)).trans hq
  · rw [State.withOut_conns, State.withConn_getElem_self]
    exact hdue

/-- Settles O30: the retry delay and PG lead into POWERING and ON, and the window's end clears the counter. -/
theorem retryPowerGoodAndWindow : Obligations.RetryPowerGoodAndWindow := by
  unfold Obligations.RetryPowerGoodAndWindow
  intro c lines s hr k
  refine ⟨fun hs hc => ?_, fun hs => ⟨?_, ?_⟩, fun hs hq hdue => ?_, fun hs hc => ?_⟩
  · rw [exec_retryDelayExpiry hr lines hc hs, State.onSite_powerUp]
  · rw [exec_pgInputChange_of_powering hr true lines hs]
    rfl
  · rw [exec_pgInputChange_of_powering hr false lines hs]
    rfl
  · have hsame : ∀ u : Connector, u.state = k.state →
        (s.withConn c u).moveEvent c .on .powerGood k.faultCounter = s.moveEvent c .on .powerGood k.faultCounter := by
      intro u hu
      rw [State.moveEvent, State.moveEvent, State.withConn_getElem_self, hu]
      rfl
    rw [exec_pgInputChange_of_powering hr true lines hs, ← hsame { k with pgAsserted := true } rfl]
    exact congrArg Host.Outcome.next (State.cameOn_of_idle (k := { k with pgAsserted := true }) lines hq hdue)
  · rw [exec_recurrenceWindowExpiry hr hc hs]

/-! ### Faults (R30 to R34) -/

section
variable {k : Connector}

/-- While PG is as it should be, the condition is an OC outside the inrush window (R31, R32). -/
theorem Connector.faultCondition_of_pgFine (hpg : k.state.usable = true → k.pgAsserted = true) :
    k.faultCondition = (k.state.powered && k.ocAsserted && k.inrush.isNone) := by
  unfold Connector.faultCondition
  cases hu : k.state.usable with
  | false => rw [Bool.false_and, Bool.or_false]
  | true => rw [hpg hu, Bool.not_true, Bool.and_false, Bool.or_false]

/-- A lost PG is a fault condition whatever OC does (R32). -/
theorem Connector.faultCondition_of_pgLost (hu : k.state.usable = true) (hpg : k.pgAsserted = false) :
    k.faultCondition = true := by
  rw [Connector.faultCondition, hu, hpg, Bool.not_false, Bool.and_self, Bool.or_true]

/-- An OC that counts is a fault condition whatever PG does (R31, R32). -/
theorem Connector.faultCondition_of_oc (hp : k.state.powered = true) (ho : k.ocAsserted = true) (hi : k.inrush = none) :
    k.faultCondition = true := by
  rw [Connector.faultCondition, hp, ho, hi]
  rfl

/-- No OC that counts, and PG fine (R31, R32). -/
theorem Connector.faultCondition_of_none (ho : k.ocAsserted = false ∨ k.inrush.isSome = true)
    (hpg : k.state.usable = true → k.pgAsserted = true) : k.faultCondition = false := by
  rw [Connector.faultCondition_of_pgFine hpg]
  obtain ho | hi := ho
  · rw [ho, Bool.and_false, Bool.false_and]
  · rw [Option.isNone_eq_false_iff.2 hi, Bool.and_false]

end

/-- In ON and DRAINING PG is no way to ON. -/
theorem ConnState.ne_powering_of_usable {st : ConnState} (h : st.usable = true) : st ≠ .powering := by
  rintro rfl; cases h

/-- Settles O31: each change makes the fault condition appear, disappear or stand (R31, R32). -/
theorem faultConditionIsTimed : Obligations.FaultConditionIsTimed := by
  unfold Obligations.FaultConditionIsTimed
  intro c lines s hr k pgFine
  refine ⟨fun hp hi ho hpg hq => ?_, fun hp hi ho hpg => ?_, fun oc hp hi hpg => ?_, fun hu hpg ho hq => ?_,
    fun hp hi ho hpg hq => ?_, fun hp hi ho => ?_, fun hu hpg ho => ?_, fun oc hu hpg => ?_, fun pg hu ho hi => ?_,
    fun hu hpg hi => ?_⟩
  · rw [exec_ocInputChange hr]
    exact congrArg Host.Outcome.next
      (State.reviewFault_of_appears (k := { k with ocAsserted := true }) (Connector.faultCondition_of_none (.inl ho) hpg)
        (Connector.faultCondition_of_oc hp rfl hi) hq)
  · rw [exec_ocInputChange hr]
    exact congrArg Host.Outcome.next
      (State.reviewFault_of_ends (k := { k with ocAsserted := false }) (Connector.faultCondition_of_oc hp ho hi)
        (Connector.faultCondition_of_none (.inl rfl) hpg))
  · rw [exec_ocInputChange hr]
    exact congrArg Host.Outcome.next
      (State.reviewFault_of_same (k := { k with ocAsserted := oc })
        (Connector.faultCondition_of_none (.inr hi) hpg) (Connector.faultCondition_of_none (.inr hi) hpg))
  · rw [exec_pgInputChange_of_not_powering hr false lines (ConnState.ne_powering_of_usable hu)]
    exact congrArg Host.Outcome.next
      (State.reviewFault_of_appears (k := { k with pgAsserted := false })
        (Connector.faultCondition_of_none ho fun _ => hpg) (Connector.faultCondition_of_pgLost hu rfl) hq)
  · rw [exec_inrushTimerExpiry hr hi]
    exact congrArg Host.Outcome.next
      (State.reviewFault_of_appears (k := { k with inrush := none }) (Connector.faultCondition_of_none (.inr hi) hpg)
        (Connector.faultCondition_of_oc hp ho rfl) hq)
  · rw [exec_inrushTimerExpiry hr hi]
    refine congrArg Host.Outcome.next (State.reviewFault_of_same (k := { k with inrush := none }) ?_ rfl)
    change (_ && k.ocAsserted && _ || _) = (_ && k.ocAsserted && _ || _)
    rw [ho, Bool.and_false, Bool.false_and, Bool.false_and]
  · rw [exec_pgInputChange_of_not_powering hr true lines (ConnState.ne_powering_of_usable hu)]
    exact congrArg Host.Outcome.next
      (State.reviewFault_of_ends (k := { k with pgAsserted := true }) (Connector.faultCondition_of_pgLost hu hpg)
        (Connector.faultCondition_of_none ho fun _ => rfl))
  · rw [exec_ocInputChange hr]
    exact congrArg Host.Outcome.next
      (State.reviewFault_of_same (k := { k with ocAsserted := oc })
        (Connector.faultCondition_of_pgLost hu hpg) (Connector.faultCondition_of_pgLost hu hpg))
  · have hp := ConnState.powered_of_usable hu
    rw [exec_pgInputChange_of_not_powering hr pg lines (ConnState.ne_powering_of_usable hu)]
    exact congrArg Host.Outcome.next
      (State.reviewFault_of_same (k := { k with pgAsserted := pg })
        (Connector.faultCondition_of_oc hp ho hi) (Connector.faultCondition_of_oc hp ho hi))
  · rw [exec_inrushTimerExpiry hr hi]
    exact congrArg Host.Outcome.next
      (State.reviewFault_of_same (k := { k with inrush := none })
        (Connector.faultCondition_of_pgLost hu hpg) (Connector.faultCondition_of_pgLost hu hpg))

/-- Settles O32: the timers' ends and, with qualify_ms 0, the condition's appearance take the fault (R30, R32 to R34). -/
theorem qualifiedFaultIsTaken : Obligations.QualifiedFaultIsTaken := by
  unfold Obligations.QualifiedFaultIsTaken
  intro c lines s hr k
  refine ⟨fun hp hq => exec_qualifyTimerExpiry hr hp hq, fun hs hd => exec_pgDeadlineExpiry hr hs hd,
    fun hp hi ho hpg hq => ?_, fun hu hpg ho hq => ?_, fun hu hpg ho hi hq => ?_, fun hp hi ho hpg hq => ?_⟩
  · rw [exec_ocInputChange hr]
    exact congrArg Host.Outcome.next
      (State.reviewFault_of_qualified (k := { k with ocAsserted := true })
        (Connector.faultCondition_of_none (.inl ho) hpg) (Connector.faultCondition_of_oc hp rfl hi) hq)
  · rw [exec_pgInputChange_of_not_powering hr false lines (ConnState.ne_powering_of_usable hu)]
    have hcause : Connector.faultCause { k with pgAsserted := false } = .pgLost := by
      unfold Connector.faultCause
      exact if_neg (by rw [ho]; exact Bool.false_ne_true)
    rw [← hcause]
    exact congrArg Host.Outcome.next
      (State.reviewFault_of_qualified (k := { k with pgAsserted := false })
        (Connector.faultCondition_of_none (.inl ho) fun _ => hpg) (Connector.faultCondition_of_pgLost hu rfl) hq)
  · rw [exec_pgInputChange_of_not_powering hr false lines (ConnState.ne_powering_of_usable hu)]
    have hcause : Connector.faultCause { k with pgAsserted := false } = .overcurrent := if_pos ho
    rw [← hcause]
    exact congrArg Host.Outcome.next
      (State.reviewFault_of_qualified (k := { k with pgAsserted := false })
        (Connector.faultCondition_of_none (.inr hi) fun _ => hpg) (Connector.faultCondition_of_pgLost hu rfl) hq)
  · rw [exec_inrushTimerExpiry hr hi]
    have hcause : Connector.faultCause { k with inrush := none } = .overcurrent := if_pos ho
    rw [← hcause]
    exact congrArg Host.Outcome.next
      (State.reviewFault_of_qualified (k := { k with inrush := none })
        (Connector.faultCondition_of_none (.inr hi) hpg) (Connector.faultCondition_of_oc hp ho rfl) hq)

/-! ### Attention (R45, R46) -/

/-- A connector just replaced, with the attention that is due. -/
theorem State.attended_withConn (s : State) (c : ConnId) (k : Connector) :
    (s.withConn c k).attended c =
      if k.state.usable = true ∧ k.armed = true ∧ k.steady = true then
        (s.withConn c { k with armed := false }).withOut (s.out.raise (.attention c (s.slotOf c)))
      else s.withConn c k := by
  simp only [State.attended, State.withConn_getElem_self, State.withConn_withConn]
  rfl

/-- Settles O33: the check of the attention due follows the change of the input's steadiness, or of the flag. -/
theorem attentionIsReportedOnce : Obligations.AttentionIsReportedOnce := by
  unfold Obligations.AttentionIsReportedOnce
  intro c s k reported
  refine ⟨fun hr ha => ?_, fun tag slot rest hq hadm hslot => ?_⟩
  · rw [exec_attentionSteady hr ha, State.attended_withConn]
    simp only [and_true]
    rfl
  · change execAttentionArm s = _
    rw [execAttentionArm, State.whenRunning_running hadm.1, State.admitSlot_of_admits hadm hq rfl rfl hslot rfl,
      State.taken_onSite_respond, State.onSite_setConn_then s c (fun k => { k with armed := true }) Site.attentionCheck,
      State.onSite_attentionCheck, State.attended_withConn]
    simp only [true_and]
    rfl

end Sys2Proof.Machine
end

section
/-! PROOFS. Events raised, the end of a device reset, the host-loss action, a RESTART admitted, and the frame scheduler with
the bytes of what it frames (O22, O27, O40, O42, O43). -/

namespace Sys2Proof.Machine

/-! ### Events (R123, R126, R130) -/

/-- A new record at the tail, or one more loss (R123, R130). -/
theorem Outbound.place_eq (o : Outbound) (e : Event) :
    o.place e =
      if o.events.length < 32 then { o with events := o.events ++ [e] }
      else { o with lostEvents := min (o.lostEvents + 1) 255 } := by
  rw [Outbound.place, bump_eq_min]
  rfl

/-- What a newer transition makes of a pending event (R126). -/
theorem Event.absorb_eq (r : SlotStateRecord) (pending : Event) :
    pending.absorb r =
      match pending with
      | .slotState p =>
        if p.conn = r.conn then
          .slotState { r with conn := p.conn, fromState := p.fromState, transitions := min (p.transitions + 1) 255 }
        else pending
      | other => other := by
  cases pending with
  | slotState p => simp only [Event.absorb, SlotStateRecord.merge, bump_eq_min] <;> rfl
  | _ => rfl

/-- Settles O22: by the kind of event, and whether one of its connector is pending (R123). -/
theorem eventsAreMergedPlacedOrLost : Obligations.EventsAreMergedPlacedOrLost := by
  unfold Obligations.EventsAreMergedPlacedOrLost
  intro o e placed
  have hplace : o.place e = placed := o.place_eq e
  cases e with
  | slotState r =>
    have hmap := List.map_congr_left fun pending (_ : pending ∈ o.events) => Event.absorb_eq r pending
    simp only [← hplace]
    rw [Outbound.raise, hmap] <;> rfl
  | attention c slot => simp only [← hplace]; rfl
  | started | postedFailed | hostLoss | eventsLost => exact hplace

/-! ### The end of a device reset (R179, R180) -/

/-- Settles O27: every block takes its values for after a reset. -/
theorem deviceResetEnds : Obligations.DeviceResetEnds := by
  unfold Obligations.DeviceResetEnds
  intro straps s r hr cause enabled
  have hexec : exec (.deviceResetEnd straps) s = .next (s.afterReset r straps) := by
    change execDeviceResetEnd straps s = _
    rw [execDeviceResetEnd, hr]
  have henabled : enabled = enabledConns straps.cdis := by
    refine List.filter_congr fun c _ => ?_
    cases straps.cdis.getLsbD c.val <;> rfl
  refine ⟨_, hexec, rfl, rfl, rfl, ?_, fun c => ?_, rfl, rfl, rfl, rfl, rfl, rfl⟩
  · rw [henabled]
    exact defaultMap_toList straps.cdis
  · rw [State.afterReset_getElem]
    cases straps.cdis.getLsbD c.val <;> rfl

/-! ### The host-loss action (R44, R163) -/

section
variable {s : State} (hr : s.resetting = none) (hd : s.link.state = .down) (ht : s.link.hostLoss.isSome = true)
include hr hd ht

theorem exec_hostLossTimerExpiry_hold (ha : s.control.hostLossAction = .hold) :
    exec .hostLossTimerExpiry s = .next ((s.withLink { s.link with hostLoss := none }).raise (.hostLoss .hold 0)) := by
  change execHostLossTimerExpiry s = _
  rw [execHostLossTimerExpiry, State.whenRunning_running hr, if_pos ⟨ht, hd⟩]
  simp only [ha] <;> rfl

theorem exec_hostLossTimerExpiry_powerOffAll (ha : s.control.hostLossAction = .powerOffAll) :
    exec .hostLossTimerExpiry s =
      .next
        (let moved := (s.withLink { s.link with hostLoss := none }).powerOffAll
        moved.1.raise (.hostLoss .powerOffAll moved.2)) := by
  change execHostLossTimerExpiry s = _
  rw [execHostLossTimerExpiry, State.whenRunning_running hr, if_pos ⟨ht, hd⟩]
  simp only [ha] <;> rfl

end

/-- Settles O40: the set and the order of the events are those of the connectors moved to OFF (R44). -/
theorem hostLossActionIsApplied : Obligations.HostLossActionIsApplied := by
  unfold Obligations.HostLossActionIsApplied
  intro s hr hd ht u
  refine ⟨fun ha => exec_hostLossTimerExpiry_hold hr hd ht ha, fun ha => ?_⟩
  have hmoved : ∀ c : ConnId, u.powerOffAll.2.getLsbD c.val = s.conns[c].state.blocksMap := u.powerOffAll_snd
  refine ⟨u.powerOffAll.2, fun c => (hmoved c).trans (ConnState.blocksMap_eq _), ?_⟩
  rw [exec_hostLossTimerExpiry_powerOffAll hr hd ht ha]
  refine congrArg Host.Outcome.next ?_
  have hconns : (Vector.ofFn fun c : ConnId => u.conns[c].lostHost) =
      s.conns.map fun k =>
        if k.state.powered then k.cut .off 0 else if k.state = .cooldown then k.settled .off 0 else k :=
    State.conns_ext fun c => by
      simp only [Fin.getElem_fin, Vector.getElem_ofFn, Vector.getElem_map]
      rfl
  simp only [hmoved]
  change u.powerOffAll.1.raise (.hostLoss .powerOffAll u.powerOffAll.2) = _
  rw [State.powerOffAll_fst, hconns]
  rfl

/-! ### RESTART (R164, R181) -/

/-- Settles O43: an admitted RESTART waits in UP and takes effect elsewhere, and so does its guard's expiry. -/
theorem restartWaitsOrTakesEffect : Obligations.RestartWaitsOrTakesEffect := by
  unfold Obligations.RestartWaitsOrTakesEffect
  refine fun s => ⟨fun tag rest hq hadm => ?_, fun hr hg => ?_⟩
  · change execRestart s = _
    rw [execRestart_eq, State.whenRunning_running hadm.1, ← State.restartAdmitted_taken hadm.1 tag]
    exact congrArg Host.Outcome.next
      (State.admitPart_of_commonRefusal_none (accepts := hasCode codeRestart) (parse := parseBare) hq rfl rfl
        hadm.commonRefusal rfl)
  · change execRestartGuardExpiry s = _
    rw [execRestartGuardExpiry, State.whenRunning_running hr, if_pos hg, State.beginReset_restart hr]

/-! ### The frame scheduler (R132 to R134) -/

/-- The link can take a new frame (R132). -/
theorem Link.hasRoom_iff (l : Link) : l.hasRoom = true ↔ l.state = .up ∧ l.replay.length < 8 ∧ l.holdPause = none := by
  simp only [Link.hasRoom, Config.replayFrames, Bool.and_eq_true, beq_iff_eq, Option.isNone_iff_eq_none, and_assoc]
  exact and_congr_right fun _ => and_congr_left fun _ => decide_eq_true_iff

theorem Response.isRestartOk_eq (r : Response) : r.isRestartOk = decide (r.code = 0x03 ∧ r.status = .ok) := by
  simp [Response.isRestartOk, codeRestart, Bool.decide_and, beq_eq_decide]

section
variable {s : State} (hroom : s.link.hasRoom = true)
include hroom

theorem State.frameOne_response {r : Response} {rest : List Response} (hq : s.out.responses = r :: rest)
    (he : s.out.events = [] ∨ s.out.consecutive < 4) :
    s.frameOne =
      { s with
        out := s.out.framedResponse
        link := s.link.frameNew r.encode r.isRestartOk s.control.replayTimeout } := by
  have hnext : s.out.eventNext = false := by
    rw [Outbound.eventNext, hq]
    obtain he | he := he
    · rw [he]; rfl
    · have hc : (s.out.consecutive == Config.consecutiveMax) = false := beq_eq_false_iff_ne.2 (Nat.ne_of_lt he)
      rw [hc, Bool.and_false]
      rfl
  simp only [State.frameOne, hroom, hnext, hq, if_true, Bool.false_eq_true, if_false]

theorem State.frameOne_event {e : Event} {rest : List Event} (hq : s.out.events = e :: rest)
    (hr : s.out.responses = [] ∨ s.out.consecutive = 4) :
    s.frameOne =
      { s with out := s.out.framedEvent, link := s.link.frameNew e.encode false s.control.replayTimeout } := by
  have hnext : s.out.eventNext = true := by
    rw [Outbound.eventNext, hq]
    obtain hr | hr := hr
    · rw [hr]; rfl
    · rw [hr]; simp [Config.consecutiveMax]
  simp only [State.frameOne, hroom, hnext, hq, if_true]

end

/-- An event leaves the queue, and losses counted take the place freed (R131, R133). -/
theorem Outbound.framedEvent_eq (o : Outbound) :
    o.framedEvent =
      { o with
        events := if o.lostEvents = 0 then o.events.tail else o.events.tail ++ [.eventsLost o.lostEvents]
        lostEvents := 0
        consecutive := 0 } := by
  unfold Outbound.framedEvent
  split
  next h => rw [← h]
  next => rfl

/-! ### The bytes of messages, as numbers (R184, R186, R187) -/

@[simp] theorem connByte_toNat (c : ConnId) : (connByte c).toNat = c.val := by
  revert c; decide

@[simp] theorem countByte_toNat (n : Nat) : (countByte n).toNat = n % 256 := BitVec.toNat_ofNat n 8

/-- A two-byte field, least significant byte first (R186). -/
theorem wordBytes_toNat (h : Half) : (wordBytes h).map BitVec.toNat = wordField h.toNat := by
  simp only [wordBytes, lowByte, highByte, wordField, List.map_cons, List.map_nil, BitVec.toNat_setWidth,
    BitVec.toNat_ushiftRight, Nat.shiftRight_eq_div_pow]

theorem countWord_toNat (n : Nat) : (countWord n).map BitVec.toNat = wordField n := by
  rw [countWord, wordBytes_toNat, wordField, wordField, BitVec.toNat_ofNat]
  congr 1
  · omega
  · congr 1
    omega

@[simp] theorem ConnState.code_toNat (st : ConnState) : st.code.toNat = stateNumber st := by
  cases st <;> rfl

@[simp] theorem Cause.code_toNat (cause : Cause) : cause.code.toNat = causeNumber cause := by
  cases cause <;> rfl

@[simp] theorem Status.code_toNat (status : Status) : status.code.toNat = statusNumber status := by
  cases status <;> rfl

@[simp] theorem EngineState.code_toNat (e : EngineState) : e.code.toNat = engineNumber e := by
  cases e <;> rfl

@[simp] theorem flagByte_toNat (b : Bool) : (flagByte b).toNat = bit b := by
  cases b <;> rfl

/-- The slot configuration record (R169). -/
theorem SlotConfig.encode_toNat (r : SlotConfig) : r.encode.map BitVec.toNat = configNumbers r := by
  have hspeed : r.busSpeed.code.toNat = if r.busSpeed = .khz400 then 1 else 0 := by cases r.busSpeed <;> rfl
  simp [SlotConfig.encode, configNumbers, countWord_toNat, byteField, hspeed]

/-- Inputs and attention, one bit each (R173). -/
theorem SlotStatusRecord.inputsByte_toNat (r : SlotStatusRecord) :
    r.inputsByte.toNat =
      bit r.presAsserted + 2 * bit r.pgAsserted + 4 * bit r.ocAsserted + 8 * bit r.attnAsserted + 16 * bit r.armed := by
  unfold SlotStatusRecord.inputsByte
  cases r.presAsserted <;> cases r.pgAsserted <;> cases r.ocAsserted <;> cases r.attnAsserted <;> cases r.armed <;> rfl

theorem faultCounter_mod (n : Fin 2) : n.val % 256 = n.val := Nat.mod_eq_of_lt (by omega)

/-- The slot status record (R173). -/
theorem SlotStatusRecord.encode_toNat (r : SlotStatusRecord) : r.encode.map BitVec.toNat = slotStatusNumbers r := by
  simp [SlotStatusRecord.encode, slotStatusNumbers, SlotConfig.encode_toNat, wordBytes_toNat,
    SlotStatusRecord.inputsByte_toNat, byteField, faultCounter_mod]

/-- The part status record (R175). -/
theorem PartStatusRecord.encode_toNat (r : PartStatusRecord) : r.encode.map BitVec.toNat = partStatusNumbers r := by
  have hcause : r.resetCause.code.toNat = numberIn [(ResetCause.powerOn, 1), (.pin, 2), (.restart, 3)] r.resetCause := by
    cases r.resetCause <;> rfl
  have hstate : r.linkState.code.toNat = numberIn [(LinkState.start, 0), (.up, 1), (.down, 2)] r.linkState := by
    cases r.linkState <;> rfl
  have haction : r.hostLossAction.code.toNat = if r.hostLossAction = .powerOffAll then 1 else 0 := by
    cases r.hostLossAction <;> rfl
  have hrate : r.linkRate.toNat % 256 = r.linkRate.toNat := Nat.mod_eq_of_lt (by omega)
  have hpart : wordField Config.partCode = [0x08, 0x5C] := rfl
  simp [PartStatusRecord.encode, partStatusNumbers, countWord_toNat, byteField, hcause, hstate, haction, hrate, hpart,
    Config.revision]

/-- A response body (R187). -/
theorem ResponseBody.encode_toNat (b : ResponseBody) : b.encode.map BitVec.toNat = bodyNumbers b := by
  cases b with
  | slotMap table disabled =>
    have hentry : ∀ entry : Option ConnId, (mapEntryByte entry).toNat =
        match entry with
        | some c => c.val
        | none => 255 := by
      intro entry
      cases entry with
      | none => rfl
      | some c => exact connByte_toNat c
    simp [ResponseBody.encode, bodyNumbers, hentry, Function.comp_def] <;> exact fun _ _ => rfl
  | slotStatus r => exact r.encode_toNat
  | partStatus r => exact r.encode_toNat
  | empty | posted | acked | readData | place | power | target =>
    simp [ResponseBody.encode, bodyNumbers, wordBytes_toNat, byteField, faultCounter_mod]

/-- An event message (R187). -/
theorem Event.encode_toNat (e : Event) : e.encode.map BitVec.toNat = eventNumbers e := by
  cases e with
  | started cause => cases cause <;> rfl
  | hostLoss action moved => cases action <;> rfl
  | slotState | postedFailed | attention | eventsLost =>
    simp [Event.encode, eventNumbers, wordBytes_toNat, byteField, faultCounter_mod]

/-- Settles O42: the bytes of each message, and the framing's choice with its effect (R132 to R134). -/
theorem schedulerFramesOneMessage : Obligations.SchedulerFramesOneMessage := by
  unfold Obligations.SchedulerFramesOneMessage
  refine ⟨fun r => ?_, Event.encode_toNat, ?_⟩
  · rw [Response.encode, List.map_append, ResponseBody.encode_toNat]
    exact congrArg (fun n => [0x80, r.tag.toNat, r.code.toNat, n] ++ bodyNumbers r.body) (Status.code_toNat _)
  intro s hr o l framed room
  have hexec : exec .frameSchedule s = .next s.frameOne := State.whenRunning_running hr _
  have hframed : ∀ payload restartOk, l.frameNew payload restartOk s.control.replayTimeout = framed payload restartOk :=
    fun _ _ => rfl
  rw [hexec]
  refine ⟨fun r rest hroom hq he => ?_, fun e rest hroom hq hres => ?_, fun h => ?_⟩ <;>
    refine congrArg Host.Outcome.next ?_
  · rw [State.frameOne_response (l.hasRoom_iff.2 hroom) hq he, Outbound.framedResponse, bump_eq_min, hq,
      Response.isRestartOk_eq]
    rfl
  · rw [State.frameOne_event (l.hasRoom_iff.2 hroom) hq hres, Outbound.framedEvent_eq, hq]
    rfl
  · obtain hk | ⟨hroom, ⟨e, rest, hq, -, -⟩ | ⟨r, rest, hq, -, -⟩⟩ := s.frameOne_cases
    · exact hk
    · have hnone := (h.resolve_left (not_not.2 (l.hasRoom_iff.1 hroom))).2
      rw [show o.events = e :: rest from hq] at hnone
      cases hnone
    · have hnone := (h.resolve_left (not_not.2 (l.hasRoom_iff.1 hroom))).1
      rw [show o.responses = r :: rest from hq] at hnone
      cases hnone

end Sys2Proof.Machine
end

section
/-! PROOFS. The request commands by their messages: which messages each takes, the lengths it reads, and what it refuses
(O20, O44). -/

namespace Sys2Proof.Machine

/-! ### Which messages a command takes (R51, R184) -/

/-- A command of a code with one row takes the messages of that code. -/
theorem takes_eq_hasCode {i : Instr} {code : Byte} (hcode : requestCode i = some code) (ha : i ≠ .slotPowerOffAbort)
    (hd : i ≠ .slotPowerOffDrain) (m : Message) : takes i m = hasCode code m := by
  have hu : i ≠ .unknownRequest := by rintro rfl; cases hcode
  have ha : (i == .slotPowerOffAbort) = false := beq_eq_false_iff_ne.2 ha
  have hd : (i == .slotPowerOffDrain) = false := beq_eq_false_iff_ne.2 hd
  simp [takes, hasCode, hu, ha, hd, hcode]

/-- What a request command takes has its code. -/
theorem head?_of_takes {i : Instr} {code : Byte} (hcode : requestCode i = some code) {m : Message}
    (h : takes i m = true) : m.head? = some code := by
  have hu : i ≠ .unknownRequest := by rintro rfl; cases hcode
  simp only [takes, if_neg hu, hcode, Bool.and_eq_true, beq_iff_eq] at h
  exact h.1.1.2

/-- UNKNOWN_REQUEST takes what has the code of no request (R52). -/
theorem isUnknown_eq_takes (m : Message) : isUnknown m = takes .unknownRequest m := by
  cases m with
  | nil => rfl
  | cons code m => rfl

/-- The mode a SLOT_POWER_OFF spells is the byte it is taken by (R186; log entry 15). -/
theorem powerOffMode_beq (m : Message) (b : Bool) :
    (powerOffMode m == some b) = (m.length == 4 && m[3]? == some (if b then 0x01 else 0x00)) := by
  match m with
  | [] | [_] | [_, _] | [_, _, _] | _ :: _ :: _ :: _ :: _ :: _ => simp [powerOffMode, parseSlotByte]
  | [_, _, _, mode] =>
    change (flagOf mode == some b) = (some mode == some (if b then 0x01 else 0x00))
    by_cases h0 : mode = 0x00
    · subst h0; cases b <;> rfl
    · by_cases h1 : mode = 0x01
      · subst h1; cases b <;> rfl
      · rw [flagOf, if_neg h0, if_neg h1, eq_comm]
        cases b <;> exact beq_eq_false_iff_ne.2 fun h => by cases h; contradiction

theorem accepts_slotPowerOffAbort (m : Message) :
    (hasCode codeSlotPowerOff m && powerOffMode m != some true) = takes .slotPowerOffAbort m := by
  rw [bne, powerOffMode_beq]
  exact (Bool.and_true _).symm

theorem accepts_slotPowerOffDrain (m : Message) :
    (hasCode codeSlotPowerOff m && powerOffMode m != some false) = takes .slotPowerOffDrain m := by
  rw [bne, powerOffMode_beq]
  exact congrArg (· && _) (Bool.and_true _).symm

/-! ### The lengths (R185) -/

theorem parseBare_isSome (m : Message) : (parseBare m).isSome = (m.length == 2) := by
  match m with
  | [] | [_] | [_, _] | _ :: _ :: _ :: _ => simp [parseBare]

theorem parseByte_isSome (m : Message) : (parseByte m).isSome = (m.length == 3) := by
  match m with
  | [] | [_] | [_, _] | [_, _, _] | _ :: _ :: _ :: _ :: _ => simp [parseByte]

theorem parseSlotByte_isSome (m : Message) : (parseSlotByte m).isSome = (m.length == 4) := by
  match m with
  | [] | [_] | [_, _] | [_, _, _] | [_, _, _, _] | _ :: _ :: _ :: _ :: _ :: _ => simp [parseSlotByte]

theorem parseSetLink_isSome (m : Message) : (parseSetLink m).isSome = (m.length == 6) := by
  match m with
  | [] | [_] | [_, _] | [_, _, _] | [_, _, _, _] | [_, _, _, _, _] | [_, _, _, _, _, _]
  | _ :: _ :: _ :: _ :: _ :: _ :: _ :: _ => simp [parseSetLink]

theorem parseSetSlotMap_isSome (m : Message) :
    (parseSetSlotMap m).isSome = (m.length == 11 && m[2]? == some 8) := by
  match m with
  | [] | [_] | [_, _] => simp [parseSetSlotMap]
  | _ :: _ :: count :: entries =>
    rw [Bool.eq_iff_iff]
    simp [parseSetSlotMap]
    exact and_comm

theorem parseConfigure_isSome (m : Message) : (parseConfigure m).isSome = (m.length == 18) := by
  match m with
  | [] | [_] | [_, _] => simp [parseConfigure]
  | _ :: _ :: slot :: record =>
    rw [Bool.eq_iff_iff]
    simp [parseConfigure]

theorem parsePostWrite_isSome (m : Message) :
    (parsePostWrite m).isSome = m[4]?.any fun count => m.length == 5 + count.toNat := by
  match m with
  | [] | [_] | [_, _] | [_, _, _] | [_, _, _, _] => simp [parsePostWrite]
  | _ :: _ :: _ :: _ :: count :: data =>
    rw [Bool.eq_iff_iff]
    simp [parsePostWrite]
    omega

theorem parseWrite_isSome (m : Message) :
    (parseWrite m).isSome = m[5]?.any fun count => m.length == 6 + count.toNat := by
  match m with
  | [] | [_] | [_, _] | [_, _, _] | [_, _, _, _] | [_, _, _, _, _] => simp [parseWrite]
  | _ :: _ :: _ :: _ :: _ :: count :: data =>
    rw [Bool.eq_iff_iff]
    simp [parseWrite]
    omega

theorem parseRead_isSome (m : Message) :
    (parseRead m).isSome = m[6]?.any fun count => m.length == 7 + count.toNat := by
  match m with
  | [] | [_] | [_, _] | [_, _, _] | [_, _, _, _] | [_, _, _, _, _] | [_, _, _, _, _, _] => simp [parseRead]
  | _ :: _ :: _ :: _ :: _ :: _ :: count :: data =>
    rw [Bool.eq_iff_iff]
    simp [parseRead]
    omega

/-- The length a code calls for, in terms of the fields its message is read by (R185). -/
theorem lengthFits_cons (code : Byte) (m : Message) :
    lengthFits (code :: m) =
      if code = 0x03 ∨ code = 0x05 then (parseBare (code :: m)).isSome
      else if code = 0x02 then (parseSetLink (code :: m)).isSome
      else if code = 0x04 then (parseSetSlotMap (code :: m)).isSome
      else if code = 0x06 then (parseConfigure (code :: m)).isSome
      else if code = 0x09 ∨ code = 0x14 then (parseSlotByte (code :: m)).isSome
      else if code = 0x10 then (parsePostWrite (code :: m)).isSome
      else if code = 0x11 then (parseWrite (code :: m)).isSome
      else if code = 0x12 then (parseRead (code :: m)).isSome
      else (parseByte (code :: m)).isSome := by
  simp only [lengthFits, parseBare_isSome, parseSetLink_isSome, parseSetSlotMap_isSome, parseConfigure_isSome,
    parseSlotByte_isSome, parsePostWrite_isSome, parseWrite_isSome, parseRead_isSome, parseByte_isSome]

/-- A command reads the fields of a message of its code exactly where the message has the length the code calls for. -/
abbrev ReadsBy {α : Type} (code : Byte) (parse : Message → Option α) : Prop :=
  ∀ m : Message, (parse (code :: m)).isSome = lengthFits (code :: m)

section
variable {α : Type} {code : Byte} {parse : Message → Option α} {m : Message}

theorem ReadsBy.eq_none (h : ReadsBy code parse) (hm : m.head? = some code) (hl : lengthFits m = false) :
    parse m = none := by
  obtain ⟨m, rfl⟩ := List.head?_eq_some_iff.1 hm
  exact Option.not_isSome_iff_eq_none.1 (by rw [h m, hl]; exact Bool.false_ne_true)

theorem ReadsBy.exists (h : ReadsBy code parse) (hm : m.head? = some code) (hl : lengthFits m = true) :
    ∃ fields, parse m = some fields := by
  obtain ⟨m, rfl⟩ := List.head?_eq_some_iff.1 hm
  exact Option.isSome_iff_exists.1 ((h m).trans hl)

end

/-- A slot alone has the length of a byte alone (R185). -/
theorem parseSlot_isSome (m : Message) : (parseSlot m).isSome = (parseByte m).isSome := by
  rw [parseSlot, Option.isSome_map]

/-! ### Checks 1 to 4 of every request command (R53) -/

/-- What a request command does with the admission queue before its own checks: during a device reset or without a message
of its own nothing, with a wrong length BAD_LENGTH, then the first of checks 2 to 4 that fails. -/
structure Decodes (i : Instr) : Prop where
  held : ∀ {s : State}, s.resetting ≠ none → exec i s = .next s
  other : ∀ {s : State}, s.resetting = none → (∀ m rest, s.admissionQueue = m :: rest → takes i m = false) →
    exec i s = .next s
  badLength : ∀ {s : State} {m : Message} {rest : List Message}, s.resetting = none → s.admissionQueue = m :: rest →
    takes i m = true → lengthFits m = false → exec i s = .next (s.answered (codeOf m) (tagOf m) .badLength .empty)
  common : ∀ {s : State} {m : Message} {rest : List Message} {status : Status}, s.resetting = none →
    s.admissionQueue = m :: rest → takes i m = true → lengthFits m = true → s.commonRefusal (tagOf m) = some status →
    exec i s = .next (s.answered (codeOf m) (tagOf m) status .empty)

section
variable {α : Type} {i : Instr} {code : Byte} {accepts : Message → Bool}

/-- The commands of requests that name no slot. -/
theorem Decodes.ofPart {parse : Message → Option α} {inRange : α → Bool} {act : State → Byte → α → State}
    (hexec : ∀ s, exec i s = s.whenRunning fun s => s.admitPart accepts parse inRange act)
    (hcode : requestCode i = some code) (hacc : ∀ m, accepts m = takes i m) (hparse : ReadsBy code parse) :
    Decodes i where
  held hr := by rw [hexec, State.whenRunning_resetting hr]
  other hr hq := by
    rw [hexec, State.whenRunning_running hr, State.admitPart, State.takeMessage_other]
    exact fun m rest h => (hacc m).trans (hq m rest h)
  badLength {s m rest} hr hq ht hl := by
    rw [hexec, State.whenRunning_running hr,
      State.admitPart_of_parse_none hq ((hacc m).trans ht) (hparse.eq_none (head?_of_takes hcode ht) hl)]
  common {s m rest status} hr hq ht hl hc := by
    obtain ⟨fields, hp⟩ := hparse.exists (head?_of_takes hcode ht) hl
    rw [hexec, State.whenRunning_running hr, State.admitPart_of_commonRefusal_some hq ((hacc m).trans ht) hp hc]

/-- The commands of requests that name a slot. -/
theorem Decodes.ofSlot {parse : Message → Option (Byte × α)} {inRange : α → Bool}
    {act : State → Byte → Byte → ConnId → α → State}
    (hexec : ∀ s, exec i s = s.whenRunning fun s => s.admitSlot accepts parse inRange act)
    (hcode : requestCode i = some code) (hacc : ∀ m, accepts m = takes i m) (hparse : ReadsBy code parse) :
    Decodes i where
  held hr := by rw [hexec, State.whenRunning_resetting hr]
  other hr hq := by
    rw [hexec, State.whenRunning_running hr, State.admitSlot, State.takeMessage_other]
    exact fun m rest h => (hacc m).trans (hq m rest h)
  badLength {s m rest} hr hq ht hl := by
    rw [hexec, State.whenRunning_running hr,
      State.admitSlot_of_parse_none hq ((hacc m).trans ht) (hparse.eq_none (head?_of_takes hcode ht) hl)]
  common {s m rest status} hr hq ht hl hc := by
    obtain ⟨⟨slot, fields⟩, hp⟩ := hparse.exists (head?_of_takes hcode ht) hl
    rw [hexec, State.whenRunning_running hr, State.admitSlot_of_commonRefusal_some hq ((hacc m).trans ht) hp hc]

end

/-- A command of a code with one row takes the messages of that code. -/
theorem hasCode_eq_takes {i : Instr} {code : Byte} (hcode : requestCode i = some code) (ha : i ≠ .slotPowerOffAbort)
    (hd : i ≠ .slotPowerOffDrain) (m : Message) : hasCode code m = takes i m := (takes_eq_hasCode hcode ha hd m).symm

/-! The length of each message, by its code (R185). -/

theorem readsBy_parseBare {code : Byte} (h : code = 0x03 ∨ code = 0x05) : ReadsBy code parseBare := fun m => by
  rw [lengthFits_cons, if_pos h]

theorem readsBy_parseByte {code : Byte} (h : code = 0x01 ∨ code = 0x16) : ReadsBy code parseByte := fun m => by
  obtain rfl | rfl := h <;> simp [lengthFits_cons]

theorem readsBy_parseSlot {code : Byte} (h : code ∈ ([0x07, 0x08, 0x0A, 0x0B, 0x13, 0x15] : List Byte)) :
    ReadsBy code parseSlot := fun m => by
  simp only [List.mem_cons, List.not_mem_nil, or_false] at h
  obtain rfl | rfl | rfl | rfl | rfl | rfl := h <;> simp [lengthFits_cons, parseSlot_isSome]

theorem readsBy_parseSlotByte {code : Byte} (h : code = 0x09 ∨ code = 0x14) : ReadsBy code parseSlotByte := fun m => by
  obtain rfl | rfl := h <;> simp [lengthFits_cons]

theorem readsBy_parseSetLink : ReadsBy 0x02 parseSetLink := fun m => by simp [lengthFits_cons]

theorem readsBy_parseSetSlotMap : ReadsBy 0x04 parseSetSlotMap := fun m => by simp [lengthFits_cons]

theorem readsBy_parseConfigure : ReadsBy 0x06 parseConfigure := fun m => by simp [lengthFits_cons]

theorem readsBy_parsePostWrite : ReadsBy 0x10 parsePostWrite := fun m => by simp [lengthFits_cons]

theorem readsBy_parseWrite : ReadsBy 0x11 parseWrite := fun m => by simp [lengthFits_cons]

theorem readsBy_parseRead : ReadsBy 0x12 parseRead := fun m => by simp [lengthFits_cons]

/-- Every request command decodes its messages by its row (R184, R185). -/
theorem requestCommands_decode (lines : BusLines) : ∀ p ∈ requestCommands lines, Decodes p.2 := by
  simp only [requestCommands, List.forall_mem_cons]
  exact
    ⟨.ofPart (fun _ => rfl) rfl (hasCode_eq_takes rfl nofun nofun) (readsBy_parseByte (by simp)),
    .ofPart (fun _ => rfl) rfl (hasCode_eq_takes rfl nofun nofun) readsBy_parseSetLink,
    .ofPart (fun _ => rfl) rfl (hasCode_eq_takes rfl nofun nofun) (readsBy_parseBare (by simp)),
    .ofPart (fun _ => rfl) rfl (hasCode_eq_takes rfl nofun nofun) readsBy_parseSetSlotMap,
    .ofPart (fun _ => rfl) rfl (hasCode_eq_takes rfl nofun nofun) (readsBy_parseBare (by simp)),
    .ofSlot (fun _ => rfl) rfl (hasCode_eq_takes rfl nofun nofun) readsBy_parseConfigure,
    .ofSlot (fun _ => rfl) rfl (hasCode_eq_takes rfl nofun nofun) (readsBy_parseSlot (by simp)),
    .ofSlot (fun _ => rfl) rfl (hasCode_eq_takes rfl nofun nofun) (readsBy_parseSlot (by simp)),
    .ofSlot (fun _ => rfl) rfl accepts_slotPowerOffAbort (readsBy_parseSlotByte (by simp)),
    .ofSlot (fun _ => rfl) rfl accepts_slotPowerOffDrain (readsBy_parseSlotByte (by simp)),
    .ofSlot (fun _ => rfl) rfl (hasCode_eq_takes rfl nofun nofun) (readsBy_parseSlot (by simp)),
    .ofSlot (fun _ => rfl) rfl (hasCode_eq_takes rfl nofun nofun) (readsBy_parseSlot (by simp)),
    .ofSlot (fun _ => rfl) rfl (hasCode_eq_takes rfl nofun nofun) readsBy_parsePostWrite,
    .ofSlot (fun _ => rfl) rfl (hasCode_eq_takes rfl nofun nofun) readsBy_parseWrite,
    .ofSlot (fun _ => rfl) rfl (hasCode_eq_takes rfl nofun nofun) readsBy_parseRead,
    .ofSlot (fun _ => rfl) rfl (hasCode_eq_takes rfl nofun nofun) (readsBy_parseSlot (by simp)),
    .ofSlot (fun _ => rfl) rfl (hasCode_eq_takes rfl nofun nofun) (readsBy_parseSlotByte (by simp)),
    .ofSlot (fun _ => rfl) rfl (hasCode_eq_takes rfl nofun nofun) (readsBy_parseSlot (by simp)),
    .ofPart (fun _ => rfl) rfl (hasCode_eq_takes rfl nofun nofun) (readsBy_parseByte (by simp)), List.forall_mem_nil _⟩

/-! ### The request commands by their codes (R184) -/

/-- Every row of the table is the command's own code. -/
theorem requestCode_of_mem {lines : BusLines} : ∀ p ∈ requestCommands lines, requestCode p.2 = some p.1 := by
  simp [requestCommands, requestCode]

/-- Every code of the table is a request's. -/
theorem requestCommands_codes (lines : BusLines) (code : Byte) :
    (∀ p ∈ requestCommands lines, p.1 ≠ code) ↔ code ∉ knownCodes := by
  simp [requestCommands, knownCodes, eq_comm]

/-- Every command with a code has a row of the table. -/
theorem mem_requestCommands {i : Instr} {code : Byte} (h : requestCode i = some code) :
    ∃ lines, (code, i) ∈ requestCommands lines := by
  cases i with
  | getStatus | setLink | restart | setSlotMap | getSlotMap | slotConfigure | slotStatus | slotPowerOffAbort
  | slotPowerOffDrain | slotClearFault | attentionArm =>
    cases h
    exact ⟨⟨true, true⟩, by simp [requestCommands]⟩
  | slotPowerOn lines | postWrite lines | write lines | read lines | fence lines | pulseReset lines | clearBus lines
  | cancel lines =>
    cases h
    exact ⟨lines, by simp [requestCommands]⟩
  | _ => cases h

/-- A command with a code decodes its messages by its row. -/
theorem Decodes.of_requestCode {i : Instr} {code : Byte} (h : requestCode i = some code) :
    Decodes i ∧ code ∈ knownCodes := by
  obtain ⟨lines, hm⟩ := mem_requestCommands h
  exact ⟨requestCommands_decode lines _ hm,
    not_not.1 fun hn => (requestCommands_codes lines code).2 hn _ hm rfl⟩

/-- A message of a command's code and of the wrong length is one it takes; of code 0x09 by both rows (log entry 15). -/
theorem takes_of_not_lengthFits {i : Instr} {code : Byte} (hcode : requestCode i = some code) {m : Message}
    (hm : m.head? = some code) (hl : lengthFits m = false) : takes i m = true := by
  have power : ∀ {b : Bool}, requestCode i = some 0x09 → (powerOffMode m == some b) = false := by
    intro b h
    obtain rfl : code = 0x09 := Option.some.inj (hcode.symm.trans h)
    obtain ⟨m, rfl⟩ := List.head?_eq_some_iff.1 hm
    rw [powerOffMode_beq, Bool.and_eq_false_iff]
    left
    simpa [lengthFits] using hl
  by_cases ha : i = .slotPowerOffAbort
  · subst ha
    rw [← accepts_slotPowerOffAbort, bne, power rfl, (hasCode_eq_true (code := codeSlotPowerOff)).2 (hm.trans hcode.symm)]
    rfl
  · by_cases hd : i = .slotPowerOffDrain
    · subst hd
      rw [← accepts_slotPowerOffDrain, bne, power rfl, (hasCode_eq_true (code := codeSlotPowerOff)).2 (hm.trans hcode.symm)]
      rfl
    · rw [takes_eq_hasCode hcode ha hd]
      exact hasCode_eq_true.2 hm

/-! ### UNKNOWN_REQUEST (R52) -/

section
variable {s : State}

theorem exec_unknownRequest_other (hr : s.resetting = none)
    (h : ∀ m rest, s.admissionQueue = m :: rest → takes .unknownRequest m = false) :
    exec .unknownRequest s = .next s := by
  change execUnknownRequest s = _
  rw [execUnknownRequest, State.whenRunning_running hr, State.takeMessage_other]
  exact fun m rest hq => (isUnknown_eq_takes m).trans (h m rest hq)

theorem exec_unknownRequest {m : Message} {rest : List Message} (hr : s.resetting = none)
    (hq : s.admissionQueue = m :: rest) (ht : takes .unknownRequest m = true) :
    exec .unknownRequest s =
      .next (s.answered (codeOf m) (tagOf m) (if m = [] then .badLength else .unknownRequest) .empty) := by
  change execUnknownRequest s = _
  rw [execUnknownRequest, State.whenRunning_running hr,
    State.takeMessage_cons s _ _ m rest hq ((isUnknown_eq_takes m).trans ht), State.refuse_taken]

end

/-- The code byte as the statements read it. -/
theorem codeOf_eq_headD (m : Message) : codeOf m = m.headD 0xFF := by
  cases m <;> rfl

/-- Settles O20: a message of the command's own is answered by the first of checks 1 to 3 that fails, and one of them
does. -/
theorem restartPendingStopsAdmission : Obligations.RestartPendingStopsAdmission := by
  unfold Obligations.RestartPendingStopsAdmission
  intro i s hi hp
  rw [isRequest, Bool.or_eq_true, beq_iff_eq] at hi
  refine ⟨fun h => ?_, ?_⟩
  · by_cases hr : s.resetting = none
    · have h := h.resolve_left (not_not.2 hr)
      obtain rfl | hi := hi
      · exact exec_unknownRequest_other hr h
      · obtain ⟨code, hcode⟩ := Option.isSome_iff_exists.1 hi
        exact (Decodes.of_requestCode hcode).1.other hr h
    · obtain rfl | hi := hi
      · change execUnknownRequest s = _
        rw [execUnknownRequest, State.whenRunning_resetting hr]
      · obtain ⟨code, hcode⟩ := Option.isSome_iff_exists.1 hi
        exact (Decodes.of_requestCode hcode).1.held hr
  · intro m rest hr hq ht code tag
    have hcodeOf : codeOf m = code := codeOf_eq_headD m
    have htagOf : tagOf m = tag := tagOf_eq_getD m
    have hpending : s.commonRefusal tag = some (if 32 ≤ tag.toNat then .badParam else .restarting) := by
      rw [State.commonRefusal, if_pos hp]
      split <;> rfl
    obtain rfl | hi := hi
    · rw [exec_unknownRequest hr hq ht, hcodeOf, htagOf]
      by_cases hm : m = []
      · simp only [if_pos hm]
      · obtain ⟨b, m, rfl⟩ := List.exists_cons_of_ne_nil hm
        have hunknown : code ∉ knownCodes := by simpa [takes, code] using ht
        simp only [if_neg hm, if_pos hunknown]
    · obtain ⟨own, hcode⟩ := Option.isSome_iff_exists.1 hi
      obtain ⟨hd, hknown⟩ := Decodes.of_requestCode hcode
      have hhead := head?_of_takes hcode ht
      have hown : code ∈ knownCodes := by rwa [← hcodeOf, codeOf_of_head? hhead]
      have hm : m ≠ [] := by rintro rfl; cases hhead
      rw [if_neg hm, if_neg (not_not.2 hown)]
      cases hl : lengthFits m with
      | false => rw [hd.badLength hr hq ht hl, hcodeOf, htagOf]; rfl
      | true => rw [hd.common hr hq ht hl (htagOf ▸ hpending), hcodeOf, htagOf]; rfl

/-- Settles O44: a message that is no request is UNKNOWN_REQUEST's, one of the wrong length every row's of its code. -/
theorem decodingRefusals : Obligations.DecodingRefusals := by
  unfold Obligations.DecodingRefusals
  intro m rest s hr hq code tag
  have hcodeOf : codeOf m = code := codeOf_eq_headD m
  have htagOf : tagOf m = tag := tagOf_eq_getD m
  refine ⟨?_, fun hm hnone => ?_, fun lines p hmem hm hcode hl => ?_⟩
  · rintro rfl
    exact exec_unknownRequest hr hq rfl
  · have hunknown : code ∉ knownCodes := (requestCommands_codes ⟨true, true⟩ code).1 (hnone _)
    obtain ⟨b, m, rfl⟩ := List.exists_cons_of_ne_nil hm
    rw [exec_unknownRequest hr hq (by simpa [takes, code] using hunknown), if_neg hm, hcodeOf, htagOf]
  · have hown := requestCode_of_mem p hmem
    have hhead : m.head? = some p.1 := by
      obtain ⟨b, m, rfl⟩ := List.exists_cons_of_ne_nil hm
      exact congrArg some hcode.symm
    rw [(requestCommands_decode lines p hmem).badLength hr hq (takes_of_not_lengthFits hown hhead hl) hl, hcodeOf,
      htagOf]

end Sys2Proof.Machine
end

section
/-! PROOFS. The control requests that pass their checks: status, settings, the slot map and power (O45, O46, O47, O50,
O51). -/

namespace Sys2Proof.Machine

/-! ### Admission of a request that passes its checks (R53) -/

/-- Every check passes: the owner acts on the part with the message taken. -/
theorem State.admitPart_of_admits {α : Type} {s : State} {m : Message} {rest : List Message}
    {accepts : Message → Bool} {parse : Message → Option α} {inRange : α → Bool} {act : State → Byte → α → State}
    {fields : α} (hadm : s.Admits (tagOf m)) (hq : s.admissionQueue = m :: rest) (ha : accepts m = true)
    (hp : parse m = some fields) (hi : inRange fields = true) :
    s.admitPart accepts parse inRange act = act s.taken (tagOf m) fields :=
  State.admitPart_of_commonRefusal_none hq ha hp hadm.commonRefusal hi

/-! ### GET_STATUS and SLOT_STATUS (R173, R175, R176) -/

/-- The message taken held a response place (R120). -/
theorem State.placesInUse_taken {s : State} {m : Message} {rest : List Message} (hq : s.admissionQueue = m :: rest) :
    s.taken.placesInUse + 1 = s.placesInUse := by
  rw [State.placesInUse_eq, State.placesInUse_eq, State.taken_admissionQueue, hq]
  change rest.length + s.total Connector.tracked + s.out.responses.length + 1 = _
  rw [List.length_cons]
  omega

/-- Settles O45: the records are those of the part and of the connector as they stand, and nothing but the counters
changes. -/
theorem statusRequestsAreAnswered : Obligations.StatusRequestsAreAnswered := by
  unfold Obligations.StatusRequestsAreAnswered
  refine fun tag s hadm => ⟨fun flag rest hq hflag => ?_, fun slot rest c hq hslot => ?_⟩
  · have hrange : (flagOf flag).isSome = true := by obtain rfl | rfl := hflag <;> rfl
    have hclear : flagOf flag = some true ↔ flag = 0x01 := by
      obtain rfl | rfl := hflag <;> decide
    change execGetStatus s = _
    rw [execGetStatus, State.whenRunning_running hadm.1,
      State.admitPart_of_admits (m := [0x01, tag, flag]) (fields := flag) hadm hq rfl rfl hrange]
    simp only [hclear, State.partStatus, State.placesInUse_taken hq]
    rfl
  · change execSlotStatus s = _
    rw [execSlotStatus, State.whenRunning_running hadm.1]
    exact congrArg Host.Outcome.next
      ((State.admitSlot_of_admits (m := [0x07, tag, slot]) (fields := ()) hadm hq rfl rfl hslot rfl).trans
        ((s.taken_onSite_respond c (fun t => t) _).trans (congrArg (fun u => State.respond u.taken _)
          (State.onSite_self rfl))))

/-! ### SET_LINK and SLOT_CONFIGURE (R170, R177) -/

/-- The two bytes of a field, as a number (R186). -/
theorem wordOf_toNat (low high : Byte) : (wordOf low high).toNat = low.toNat + 256 * high.toNat := by
  have hl := low.isLt
  have hh := high.isLt
  rw [wordOf, BitVec.toNat_or, BitVec.toNat_shiftLeft, BitVec.toNat_setWidth, BitVec.toNat_setWidth,
    Nat.mod_eq_of_lt (by omega), Nat.mod_eq_of_lt (by omega : low.toNat < 2 ^ 16), Nat.shiftLeft_eq,
    Nat.mod_eq_of_lt (by omega), ← Nat.shiftLeft_eq, ← Nat.shiftLeft_add_eq_or_of_lt hl, Nat.shiftLeft_eq]
  omega

/-- A field of two bytes reads as it was written (R186). -/
theorem wordOf_wordBytes (h : Half) : wordOf (lowByte h) (highByte h) = h := by
  refine BitVec.eq_of_toNat_eq ?_
  have hn := wordBytes_toNat h
  have hlt := h.isLt
  obtain ⟨hlow, hhigh⟩ : (lowByte h).toNat = h.toNat % 256 ∧ (highByte h).toNat = h.toNat / 256 % 256 := by
    simpa [wordBytes, wordField] using hn
  rw [wordOf_toNat, hlow, hhigh]
  omega

@[simp] theorem flagOf_flagByte (b : Bool) : flagOf (flagByte b) = some b := by cases b <;> rfl

@[simp] theorem speedOf_code (speed : BusSpeed) : speedOf speed.code = some speed := by cases speed <;> rfl

/-- A record in range reads as it was written (R169). -/
theorem SlotConfig.decode_encode {r : SlotConfig} (h : r.inRange = true) : SlotConfig.decode r.encode = some r := by
  have hr := h
  simp only [SlotConfig.inRange, decide_eq_true_eq] at hr
  have hbyte : ∀ {n}, n < 256 → (countByte n).toNat = n := fun hn => (countByte_toNat _).trans (Nat.mod_eq_of_lt hn)
  have hword : ∀ {n}, n < 65536 → (wordOf (lowByte (BitVec.ofNat 16 n)) (highByte (BitVec.ofNat 16 n))).toNat = n :=
    fun hn => by rw [wordOf_wordBytes, BitVec.toNat_ofNat, Nat.mod_eq_of_lt hn]
  simp only [SlotConfig.encode, countWord, wordBytes, List.cons_append, List.nil_append, SlotConfig.decode,
    flagOf_flagByte, speedOf_code, hbyte (n := r.inrushMs) (by omega), hbyte (n := r.qualifyMs) (by omega),
    hword (n := r.pgDeadlineMs) (by omega), hbyte (n := r.retryDelay) (by omega),
    hbyte (n := r.recurrenceWindow) (by omega), hbyte (n := r.debounceMs) (by omega),
    hbyte (n := r.retryIntervalMs) (by omega), hbyte (n := r.postedRetries) (by omega),
    hword (n := r.lifetimeMs) (by omega), hbyte (n := r.quota) (by omega)]
  exact if_pos h

/-- Settles O46: the whole record, or all three parameters, are replaced, and nothing else. -/
theorem settingsAreReplacedWhole : Obligations.SettingsAreReplacedWhole := by
  unfold Obligations.SettingsAreReplacedWhole
  refine fun tag s hadm => ⟨fun low high loss selector action rest hq hmin hmax hsel => ?_,
    fun r slot rest c hq hslot hr => ?_⟩
  · have haction : lossActionOf selector = some action := by
      obtain ⟨rfl, rfl⟩ | ⟨rfl, rfl⟩ := hsel <;> rfl
    have hrange : SetLinkFields.inRange ⟨(wordOf low high).toNat, loss.toNat, selector⟩ = true := by
      have hloss := loss.isLt
      simp only [SetLinkFields.inRange, wordOf_toNat, haction, Option.isSome_some, Bool.and_true, decide_eq_true_eq]
      omega
    change execSetLink s = _
    rw [execSetLink, State.whenRunning_running hadm.1,
      State.admitPart_of_admits (m := [0x02, tag, low, high, loss, selector]) (parse := parseSetLink) hadm hq rfl
        rfl hrange]
    simp only [haction, wordOf_toNat]
    rfl
  · have hlen : r.encode.length = 15 := rfl
    have hparse : parseConfigure ([0x06, tag, slot] ++ r.encode) = some (slot, r.encode) := by
      change (if r.encode.length = 15 then some (slot, r.encode) else none) = _
      exact if_pos hlen
    have hdecode := SlotConfig.decode_encode hr
    change execSlotConfigure s = _
    rw [execSlotConfigure, State.whenRunning_running hadm.1]
    refine congrArg Host.Outcome.next
      ((State.admitSlot_of_admits hadm hq rfl hparse hslot (Option.isSome_of_eq_some hdecode)).trans ?_)
    simp only [hdecode]
    exact s.taken_onSite_respond c (fun t => t.setConn { t.conn with config := r }) _

/-! ### SET_SLOT_MAP (R14, R15) -/

@[simp] theorem mapEntryOf_mapEntryByte (entry : Option ConnId) : mapEntryOf (mapEntryByte entry) = some entry := by
  cases entry with
  | none => rfl
  | some c => revert c; decide

/-- A table reads as it was written (R185). -/
theorem tableOf_mapEntryByte (table : Vector (Option ConnId) 8) :
    tableOf (table.toList.map mapEntryByte) = some table := by
  obtain ⟨⟨entries⟩, hsize⟩ := table
  match entries, hsize with
  | [a, b, c, d, e, f, g, h], _ => simp [tableOf]

/-- Settles O47: the checks of the table in their order, then its consequences. -/
theorem slotMapIsReplacedOrRefused : Obligations.SlotMapIsReplacedOrRefused := by
  unfold Obligations.SlotMapIsReplacedOrRefused
  intro table tag rest s hadm hq before after wrong blocked
  have htable := tableOf_mapEntryByte table
  have hparse : parseSetSlotMap ([0x04, tag, 8] ++ table.toList.map mapEntryByte) =
      some (table.toList.map mapEntryByte) := if_pos ⟨rfl, by simp⟩
  have hwrong : wrong ↔
      ¬(namedIn table).Nodup ∨ (namedIn table).any (fun c => s.strapDisabled.getLsbD c.val) = true := by
    simp [wrong]
  have hblocked : blocked ↔ allConns.any (fun c => s.affected table c && s.conns[c].state.blocksMap) = true := by
    simp [blocked, before, after, List.any_eq_true, mem_allConns, State.affected, State.slotOf]
  have hexec : exec .setSlotMap s =
      .next
        (match s.mapRefusal table with
        | some status => s.answered 0x04 tag status .empty
        | none => (s.remap table).answered 0x04 tag .ok .empty) := by
    change execSetSlotMap s = _
    rw [execSetSlotMap, State.whenRunning_running hadm.1]
    refine congrArg Host.Outcome.next
      ((State.admitPart_of_admits hadm hq rfl hparse (Option.isSome_of_eq_some htable)).trans ?_)
    simp only [htable]
    have hrefusal : s.taken.mapRefusal table = s.mapRefusal table := rfl
    rw [hrefusal]
    cases s.mapRefusal table with
    | some status => rfl
    | none =>
      simp only [State.remap_eq]
      rfl
  refine ⟨fun h => ?_, fun hn h => ?_, fun hn hnb => ?_⟩
  · rw [hexec, State.mapRefusal, if_pos (hwrong.1 h)]
  · rw [hexec, State.mapRefusal, if_neg (mt hwrong.2 hn), if_pos (hblocked.1 h)]
  · rw [hexec, State.mapRefusal, if_neg (mt hwrong.2 hn), if_neg (mt hblocked.2 hnb)]
    simp only [State.remap_eq]
    rfl

/-! ### SLOT_POWER_ON and SLOT_POWER_OFF in mode DRAIN (R38, R40) -/

/-- A drain request by the state it finds (R40). -/
theorem State.onSite_powerOffDrain (s : State) (c : ConnId) :
    s.onSite c Site.powerOffDrain =
      match s.conns[c].state with
      | .on =>
        if s.conns[c].queue = [] then s.cutTo c .poweredOff .off .drained 0
        else
          (s.withConn c { s.conns[c] with state := .draining }).withOut
            (s.out.raise (s.moveEvent c .draining .hostDrain s.conns[c].faultCounter))
      | .powering => s.cutTo c .poweredOff .off .hostOff 0
      | .cooldown => s.moved c .off .hostOff 0
      | .draining | .unused | .empty | .off | .faulted => s := by
  have hst : (s.site c).conn.state = s.conns[c].state := rfl
  cases hk : s.conns[c].state with
  | on =>
    by_cases hq : s.conns[c].queue = []
    · simp only [if_pos hq]
      rw [← State.onSite_powerCut_settle]
      refine State.onSite_congr ?_
      simp only [Site.powerOffDrain, hst, hk]
      exact if_pos hq
    · simp only [if_neg hq]
      refine State.onSite_congr (g := fun t => t.enter .draining .hostDrain) ?_
      simp only [Site.powerOffDrain, hst, hk]
      exact if_neg hq
  | powering =>
    simp only
    rw [← State.onSite_powerOffNow_of_powered .hostOff (by rw [hk]; rfl)]
    exact State.onSite_congr (by simp only [Site.powerOffDrain, hst, hk])
  | cooldown =>
    simp only
    rw [← State.onSite_powerOffNow_of_cooldown .hostOff hk]
    exact State.onSite_congr (by simp only [Site.powerOffDrain, hst, hk])
  | draining | unused | empty | off | faulted =>
    exact State.onSite_self (by simp only [Site.powerOffDrain, hst, hk])

/-- A drain request acts on the connector's own site. -/
theorem Site.powerOffDrain_id (t : Site) : t.powerOffDrain.id = t.id := by
  unfold Site.powerOffDrain
  split
  · split
    · rw [Site.powerCut_settle]
    · rfl
  · exact t.powerOffNow_id _
  · exact t.powerOffNow_id _
  all_goals rfl

/-- While the engine has work in hand no entry starts (R75). -/
theorem State.started_of_busy {s : State} {c : ConnId} (lines : BusLines) (hi : s.conns[c].engine ≠ .idle)
    (hh : s.conns[c].engine ≠ .hung) : s.started c lines = s := by
  refine State.onSite_self (Site.startDecision_idle (s.site c) lines ?_)
  rw [← Bool.not_eq_true, Connector.mayStart_iff]
  exact fun h => h.2.1.elim hi hh

/-- SLOT_POWER_ON by the state it finds (R38). -/
theorem State.onSite_powerOn_of_off {s : State} {c : ConnId} (lines : BusLines)
    (h : s.conns[c].state = .off ∨ s.conns[c].state = .cooldown) :
    (s.onSite c fun t => t.powerOn lines) =
      if s.conns[c].pgAsserted then (s.poweredUp c .hostOn).cameOn c lines else s.poweredUp c .hostOn := by
  rw [← State.onSite_powerUp]
  refine State.onSite_congr ?_
  obtain h | h := h <;> simp only [Site.powerOn, show (s.site c).conn.state = _ from h]

theorem State.onSite_powerOn_of_draining {s : State} {c : ConnId} (lines : BusLines)
    (h : s.conns[c].state = .draining) :
    (s.onSite c fun t => t.powerOn lines) =
      ((((s.withConn c { s.conns[c] with state := .on }).withOut
        (s.out.raise (s.moveEvent c .on .hostOn s.conns[c].faultCounter))).attended c).started c lines) := by
  rw [← State.onSite_nowOn, State.onSite_withConn_withOut]
  refine congrArg (s.putSite c) ?_
  simp only [Site.powerOn, show (s.site c).conn.state = _ from h]
  rfl

theorem State.onSite_powerOn_of_other {s : State} {c : ConnId} (lines : BusLines)
    (h : s.conns[c].state ∉ ([.off, .cooldown, .draining] : List ConnState)) :
    (s.onSite c fun t => t.powerOn lines) = s := by
  refine State.onSite_self ?_
  have hst : (s.site c).conn.state = s.conns[c].state := rfl
  unfold Site.powerOn
  rw [hst]
  cases hk : s.conns[c].state with
  | off | cooldown | draining =>
    rw [hk] at h
    exact absurd (by simp) h
  | unused | empty | powering | on | faulted => rfl

section
variable {tag slot : Byte} {c : ConnId} {rest : List Message} {s : State}

/-- An admitted SLOT_POWER_ON acts by the state it finds and is answered by it (R38, R43). -/
theorem exec_slotPowerOn (lines : BusLines) (hadm : s.Admits tag) (hq : s.admissionQueue = [0x08, tag, slot] :: rest)
    (hslot : s.resolve slot = some c) :
    exec (.slotPowerOn lines) s =
      .next
        ((s.onSite c fun t => t.powerOn lines).answeredPower c 0x08 tag slot s.conns[c].state.powerOnStatus) := by
  change execSlotPowerOn lines s = _
  rw [execSlotPowerOn, State.whenRunning_running hadm.1]
  exact congrArg Host.Outcome.next
    ((State.admitSlot_of_admits (m := [0x08, tag, slot]) (fields := ()) hadm hq rfl rfl hslot rfl).trans
      ((State.onSite_congr (s := s.taken)
        (g := fun t => (t.powerOn lines).answerPower 0x08 tag slot s.conns[c].state.powerOnStatus) rfl).trans
        (State.onSite_answerPower rfl (congrArg Prod.fst (Site.powerOn_place _ lines)) 0x08 tag slot _)))

/-- An admitted SLOT_POWER_OFF in mode DRAIN acts by the state it finds and is answered OK (R40, R43). -/
theorem exec_slotPowerOffDrain (hadm : s.Admits tag) (hq : s.admissionQueue = [0x09, tag, slot, 0x01] :: rest)
    (hslot : s.resolve slot = some c) :
    exec .slotPowerOffDrain s =
      .next ((s.onSite c Site.powerOffDrain).answeredPower c 0x09 tag slot .ok) := by
  change execSlotPowerOffDrain s = _
  rw [execSlotPowerOffDrain, State.whenRunning_running hadm.1]
  exact congrArg Host.Outcome.next
    ((State.admitSlot_of_admits (m := [0x09, tag, slot, 0x01]) (fields := 0x01) hadm hq rfl rfl hslot rfl).trans
      (State.onSite_answerPower rfl (Site.powerOffDrain_id _) 0x09 tag slot .ok))

end

/-- Settles O50: each state decides the action, and the state found the status. -/
theorem powerOnByState : Obligations.PowerOnByState := by
  unfold Obligations.PowerOnByState
  intro tag slot c lines rest s hadm hq hslot k answer resumed
  rw [exec_slotPowerOn lines hadm hq hslot]
  have hother := fun h => State.onSite_powerOn_of_other (s := s) (c := c) lines h
  refine ⟨fun h => ?_, fun h => ?_, fun h hi hh hdue => ?_, fun h => ?_, fun h => ?_, fun h => ?_⟩
  · rw [State.onSite_powerOn_of_off lines h]
    obtain h | h := h <;> rw [h] <;> rfl
  · rw [State.onSite_powerOn_of_draining lines h, h]
    rfl
  · have hk : resumed.conns[c] = { k with state := .on } := State.withConn_getElem_self s c _
    rw [State.onSite_powerOn_of_draining lines h, h, State.attended_of_not_due, State.started_of_busy]
    · rfl
    · rw [show (State.withOut _ _).conns[c] = _ from hk]; exact hi
    · rw [show (State.withOut _ _).conns[c] = _ from hk]; exact hh
    · rw [show (State.withOut _ _).conns[c] = _ from hk]; exact hdue
  · obtain h | h := h <;> rw [hother (by rw [h]; decide), h] <;> rfl
  · rw [hother (by rw [h]; decide), h]
    rfl
  · rw [hother (by rw [h]; decide), h]
    rfl

/-- Settles O51: the state found decides. -/
theorem powerOffDrainByState : Obligations.PowerOffDrainByState := by
  unfold Obligations.PowerOffDrainByState
  intro tag slot c rest s hadm hq hslot _ k
  rw [exec_slotPowerOffDrain hadm hq hslot, State.onSite_powerOffDrain] <;> rfl

end Sys2Proof.Machine
end

section
/-! PROOFS. Check 6 of the control requests, and the bus-class requests by their messages (O53, O54, O55). -/

namespace Sys2Proof.Machine

/-! ### A bus-class request by its message (R185) -/

/-- Requests of one kind that agree in range and entry come to the same. -/
theorem BusRequest.outcome_congr {r r' : BusRequest} (hkind : r.kind = r'.kind) (hin : r.inRange = r'.inRange)
    (hentry : ∀ k tag slot, r.entry k tag slot = r'.entry k tag slot) (s : State) (tag slot : Byte)
    (lines : BusLines) : r.outcome s tag slot lines = r'.outcome s tag slot lines := by
  have hcode : r.code = r'.code := by rw [BusRequest.code, hkind, BusRequest.code]
  have hcounter : ∀ k, r.counterAfter k = r'.counterAfter k := fun k => by
    rw [BusRequest.counterAfter, hkind, BusRequest.counterAfter]
  have hout : ∀ c, r.outAfter s c tag slot = r'.outAfter s c tag slot := fun c => by
    rw [BusRequest.outAfter, hkind, BusRequest.outAfter]
  simp only [BusRequest.outcome, BusRequest.refusal, BusRequest.admitted, hcode, hin, hentry, hcounter, hout]

/-- The length byte of at most 255 bytes. -/
theorem lengthByte_toNat {data : List Byte} (h : data.length < 256) :
    (BitVec.ofNat 8 data.length).toNat = data.length := by
  rw [BitVec.toNat_ofNat, Nat.mod_eq_of_lt h]

/-- A bus-class command on its request's message (R53 to R57, R185). -/
theorem BusRequest.exec_command {r : BusRequest} {tag slot : Byte} {rest : List Message} {s : State} (lines : BusLines)
    (hr : s.resetting = none) (hlen : r.data.length < 256) (hq : s.admissionQueue = r.message tag slot :: rest) :
    exec (r.command lines) s = .next (r.outcome s tag slot lines) := by
  have hcount := (lengthByte_toNat hlen).symm
  obtain ⟨kind, address, budget, count, data⟩ := r
  cases kind with
  | postWrite =>
    refine (execPostWrite_of_parse (f := ⟨address, 0, BitVec.ofNat 8 data.length, data⟩) (slot := slot) lines hr hq rfl
      (if_pos hcount)).trans (congrArg Host.Outcome.next ?_)
    exact BusRequest.outcome_congr rfl rfl (fun _ _ _ => rfl) s tag slot lines
  | write =>
    refine (execWrite_of_parse (f := ⟨address, budget, BitVec.ofNat 8 data.length, data⟩) (slot := slot) lines hr hq rfl
      (if_pos hcount)).trans (congrArg Host.Outcome.next ?_)
    exact BusRequest.outcome_congr rfl rfl (fun _ _ _ => rfl) s tag slot lines
  | read =>
    refine (execRead_of_parse (f := ⟨address, budget, count, data⟩) (slot := slot) lines hr hq rfl
      (if_pos hcount)).trans (congrArg Host.Outcome.next ?_)
    exact BusRequest.outcome_congr rfl rfl (fun _ _ _ => rfl) s tag slot lines
  | fence =>
    refine (execFence_of_parse (slot := slot) lines hr hq rfl rfl).trans (congrArg Host.Outcome.next ?_)
    exact BusRequest.outcome_congr rfl rfl (fun _ _ _ => rfl) s tag slot lines
  | pulseReset =>
    refine (execPulseReset_of_parse (slot := slot) (ms := count) lines hr hq rfl rfl).trans
      (congrArg Host.Outcome.next ?_)
    exact BusRequest.outcome_congr rfl rfl (fun _ _ _ => rfl) s tag slot lines
  | clearBus =>
    refine (execClearBus_of_parse (slot := slot) lines hr hq rfl rfl).trans (congrArg Host.Outcome.next ?_)
    exact BusRequest.outcome_congr rfl rfl (fun _ _ _ => rfl) s tag slot lines

section
variable {r : BusRequest} {tag slot : Byte} {c : ConnId} {rest : List Message} {s : State} (lines : BusLines)
  (hr : s.resetting = none) (hlen : r.data.length < 256) (hq : s.admissionQueue = r.message tag slot :: rest)
include hr hlen hq

/-- A bus-class request that a check refuses (R53). -/
theorem BusRequest.exec_command_of_refusal {status : Status} (h : r.refusal s tag slot = some status) :
    exec (r.command lines) s = .next (s.answered r.code tag status .empty) := by
  rw [BusRequest.exec_command lines hr hlen hq, BusRequest.outcome, h]

/-- A bus-class request that passes its checks (R62, R77). -/
theorem BusRequest.exec_command_of_admitted (h : r.refusal s tag slot = none) (hslot : s.resolve slot = some c) :
    exec (r.command lines) s = .next ((r.admitted s c tag slot).started c lines) := by
  rw [BusRequest.exec_command lines hr hlen hq, BusRequest.outcome, h, hslot]

end

/-- The connector of an admitted request. -/
theorem BusRequest.admitted_self (r : BusRequest) (s : State) (c : ConnId) (tag slot : Byte) :
    (r.admitted s c tag slot).conns[c] =
      { s.conns[c] with
        queue := s.conns[c].queue ++ [r.entry s.conns[c] tag slot]
        postingCounter := r.counterAfter s.conns[c] } :=
  State.withConn_getElem_self s.taken c _

/-- No entry starts on a connector that is not usable (R75). -/
theorem State.started_of_not_usable {s : State} {c : ConnId} (lines : BusLines)
    (h : s.conns[c].state.usable = false) : s.started c lines = s := by
  refine State.onSite_self (Site.startDecision_idle (s.site c) lines ?_)
  rw [← Bool.not_eq_true, Connector.mayStart_iff]
  intro hm
  rw [show (s.site c).conn.state = s.conns[c].state from rfl, h] at hm
  cases hm.1

/-- Settles O54: a connector in POWERING takes the entry and starts nothing. -/
theorem busRequestsWaitInPowering : Obligations.BusRequestsWaitInPowering := by
  unfold Obligations.BusRequestsWaitInPowering
  intro r tag slot c lines rest s hr hq hlen hadm hslot hst
  rw [BusRequest.exec_command_of_admitted lines hr hlen hq hadm hslot, State.started_of_not_usable]
  · rfl
  · rw [BusRequest.admitted_self]
    exact (congrArg ConnState.usable hst).trans rfl

end Sys2Proof.Machine
end

section
/-! PROOFS. The sequencer: the entry chosen, the start decision, and what follows an entry's end (O23, O55). -/

namespace Sys2Proof.Machine

/-! ### The entry chosen (R76) -/

/-- The entry is eligible behind the older entries given, and behind those of which `older` says whether there is one and
`olderPosted` whether there is a posted one (R76). -/
def Entry.EligibleAfter (older olderPosted : Bool) (before : List Entry) (e : Entry) : Prop :=
  e.state = .waiting ∧
    if e.posted then olderPosted = false ∧ before.all (fun y => !y.posted) = true else older = false ∧ before = []

/-- An entry before the others counts as an older one. -/
theorem Entry.eligibleAfter_cons {older olderPosted : Bool} {y e : Entry} {before : List Entry} :
    e.EligibleAfter older olderPosted (y :: before) ↔ e.EligibleAfter true (olderPosted || y.posted) before := by
  unfold Entry.EligibleAfter
  cases e.posted <;> simp [and_assoc]

/-- The condition the choice tests. -/
theorem Entry.eligibleAfter_nil {older olderPosted : Bool} {e : Entry} :
    e.EligibleAfter older olderPosted [] ↔ e.state = .waiting ∧ (if e.posted then olderPosted else older) = false := by
  unfold Entry.EligibleAfter
  cases e.posted <;> simp

/-- The entry chosen is the first eligible one (R76). -/
theorem chooseFrom_eq_some {older olderPosted : Bool} {q : List Entry} {e : Entry} :
    chooseFrom older olderPosted q = some e ↔
      ∃ before younger, q = before ++ e :: younger ∧ e.EligibleAfter older olderPosted before ∧
        ∀ first x rest, before = first ++ x :: rest → ¬x.EligibleAfter older olderPosted first := by
  induction q generalizing older olderPosted with
  | nil => simp [chooseFrom]
  | cons y q ih =>
    rw [chooseFrom]
    by_cases hy : y.EligibleAfter older olderPosted []
    · rw [if_pos (Entry.eligibleAfter_nil.1 hy)]
      constructor
      · intro h
        obtain rfl := Option.some.inj h
        exact ⟨[], q, rfl, hy, by simp⟩
      · rintro ⟨before, younger, hq, -, hnone⟩
        cases before with
        | nil => exact congrArg some (List.cons.inj hq).1
        | cons z before =>
          obtain ⟨rfl, -⟩ := List.cons.inj hq
          exact absurd hy (hnone [] y before rfl)
    · rw [if_neg (mt Entry.eligibleAfter_nil.2 hy), ih]
      constructor
      · rintro ⟨before, younger, rfl, he, hnone⟩
        refine ⟨y :: before, younger, rfl, Entry.eligibleAfter_cons.2 he, fun first x rest hb => ?_⟩
        cases first with
        | nil =>
          obtain ⟨rfl, -⟩ := List.cons.inj hb
          exact hy
        | cons z first =>
          obtain ⟨rfl, hb'⟩ := List.cons.inj hb
          exact mt Entry.eligibleAfter_cons.1 (hnone first x rest hb')
      · rintro ⟨before, younger, hq, he, hnone⟩
        cases before with
        | nil =>
          obtain ⟨rfl, -⟩ := List.cons.inj hq
          exact absurd he hy
        | cons z before =>
          obtain ⟨rfl, hq'⟩ := List.cons.inj hq
          exact ⟨before, younger, hq', Entry.eligibleAfter_cons.1 he, fun first x rest hb =>
            mt Entry.eligibleAfter_cons.2 (hnone (y :: first) x rest (congrArg (y :: ·) hb))⟩

/-! ### The start decision (R77 to R81) -/

/-- The end of an entry of the queue shortens it. -/
theorem Site.endEntry_length {t : Site} {e : Entry} (he : e ∈ t.conn.queue) (acked : Nat) (status : Status)
    (data : List Byte) : (t.endEntry { e with acked } status data).conn.queue.length < t.conn.queue.length := by
  have hlen : (t.conn.without e.tag).queue.length + 1 = t.conn.queue.length := by
    have hany : t.conn.queue.any (fun x => x.tag == e.tag) = true := List.any_eq_true.2 ⟨e, he, beq_self_eq_true _⟩
    have hpos := List.length_pos_of_mem he
    rw [Connector.without, List.length_eraseP, if_pos hany]
    omega
  rw [Site.endEntry_conn]
  change (t.conn.without e.tag).drained.queue.length < _
  unfold Connector.drained
  split
  · exact List.length_pos_of_mem he
  · omega

/-- Decisions beyond one for each entry change nothing: the queue's length bounds the chain. -/
theorem Site.decideStarts_of_length_lt {n m : Nat} {t : Site} {lines : BusLines} (hn : t.conn.queue.length < n)
    (hm : t.conn.queue.length < m) : Site.decideStarts n t lines = Site.decideStarts m t lines := by
  induction n generalizing m t with
  | zero => exact absurd hn (Nat.not_lt_zero _)
  | succ n ih =>
    obtain ⟨m, rfl⟩ := Nat.exists_eq_add_one_of_ne_zero (Nat.ne_of_gt (Nat.zero_lt_of_lt hm))
    unfold Site.decideStarts
    by_cases hmay : t.conn.mayStart = true
    · rw [if_pos hmay, if_pos hmay]
      cases hc : t.conn.chosen with
      | none => rfl
      | some e =>
        cases hs : endsAtStart t.conn.engine e.kind with
        | none => simp only [hs]
        | some status =>
          have hlt := Site.endEntry_length (chooseFrom_some hc).1 0 status []
          simp only [hs]
          exact ih (by omega) (by omega)
    · rw [if_neg hmay, if_neg hmay]

section
variable {t : Site} {e : Entry} {lines : BusLines} (hm : t.conn.mayStart = true) (hc : t.conn.chosen = some e)
include hm hc

/-- The chosen entry starts (R78, R80). -/
theorem Site.startDecision_of_starts (hs : endsAtStart t.conn.engine e.kind = none) :
    t.startDecision lines = t.launch e lines := by
  rw [Site.startDecision, Site.decideStarts, if_pos hm]
  simp only [hc, hs]

/-- The chosen entry ends at its start, and the next decision follows (R77, R79, R81). -/
theorem Site.startDecision_of_ends {status : Status} (hs : endsAtStart t.conn.engine e.kind = some status) :
    t.startDecision lines = (t.endEntry { e with acked := 0 } status []).startDecision lines := by
  have hlt := Site.endEntry_length (chooseFrom_some hc).1 0 status []
  rw [Site.startDecision, Site.decideStarts, if_pos hm]
  simp only [hc, hs]
  exact Site.decideStarts_of_length_lt hlt (Nat.lt_succ_self _)

end

/-! ### The end of an entry, on the whole part -/

section
variable {s : State} {c : ConnId} {k : Connector} {older younger : List Entry} {x e : Entry}

/-- The end of an entry of a connector: it leaves the queue, its end is reported, and a drain this empties completes
(R87, R96). -/
theorem State.onSite_endEntry (hq : k.queue = older ++ x :: younger) (htag : x.tag = e.tag) (hd : k.tags.Nodup)
    (status : Status) (data : List Byte) :
    ((s.withConn c k).onSite c fun t => t.endEntry e status data) =
      ((s.withConn c { k with queue := older ++ younger }).withOut (s.out.afterEnd c e status data)).drained c := by
  have hqueue : (k.queue.eraseP fun y => y.tag == e.tag) = older ++ younger := by
    rw [Connector.tags, hq] at hd
    rw [hq, ← htag]
    exact eraseP_append_cons (tag_ne_of_nodup hd) (by simp)
  have hsite := State.onSite_withConn_withOut s c k s.out fun t => t.endEntry e status data
  refine Eq.trans hsite ?_
  rw [← State.onSite_drainCheck, State.onSite_withConn_withOut, Site.endEntry, Site.reportEnd_eq]
  simp only [Site.free, Site.setConn, hqueue]

end

/-! ### The start decision, on the whole part -/

section
variable {s : State} {c : ConnId} {older younger : List Entry} {e : Entry} {lines : BusLines}
  (hm : s.conns[c].mayStart = true) (hc : s.conns[c].chosen = some e) (hq : s.conns[c].queue = older ++ e :: younger)
  (hd : s.conns[c].tags.Nodup)
include hm hc hq hd

/-- The chosen entry becomes ACTIVE with its work handed to the engine (R78, R80). -/
theorem State.started_of_starts (hs : endsAtStart s.conns[c].engine e.kind = none) :
    s.started c lines =
      s.withConn c
        { s.conns[c] with
          queue := older ++ { e with state := .active, acked := 0 } :: younger
          engine := s.conns[c].workFor e lines
          mrst := s.conns[c].mrst || (s.conns[c].workFor e lines).isPulsing } := by
  rw [Connector.tags, hq] at hd
  refine State.onSite_of_setConn ?_
  rw [Site.startDecision_of_starts (t := s.site c) hm hc hs, Site.launch_eq _ _ _ (kind_ne_fence_of_endsAtStart hs),
    ← updateFirst_append_cons (fun x => { x with state := .active, acked := 0 }) (tag_ne_of_nodup hd)
      (beq_self_eq_true e.tag), ← hq]
  rfl

/-- The chosen entry ends at its start, and the next decision follows (R79, R81). -/
theorem State.started_of_ends {status : Status} (hs : endsAtStart s.conns[c].engine e.kind = some status) :
    s.started c lines =
      ((((s.withConn c { s.conns[c] with queue := older ++ younger }).withOut
        (s.out.afterEnd c { e with acked := 0 } status [])).drained c).started c lines) := by
  rw [← State.onSite_endEntry (e := { e with acked := 0 }) hq rfl hd status [], State.withConn_self, State.started,
    State.started, State.onSite_onSite (fun t => t.startDecision lines) (Site.endEntry_place _ _ _ _)]
  exact State.onSite_congr (Site.startDecision_of_ends (t := s.site c) hm hc hs)

end

/-- The start conditions, as the statements say them (R75). -/
theorem Connector.mayStart_iff_forall (k : Connector) :
    k.mayStart = true ↔
      k.state.usable = true ∧ (k.engine = .idle ∨ k.engine = .hung) ∧ ∀ x ∈ k.queue, x.state ≠ .active := by
  rw [Connector.mayStart_iff, Connector.activeEntry_eq_none]

/-- The work of a transfer: its attempt on a free bus, a bus clear before it otherwise (R78, R103, R106). -/
theorem Connector.workFor_of_transfer {k : Connector} {e : Entry} (lines : BusLines)
    (h : e.kind = .postWrite ∨ e.kind = .write ∨ e.kind = .read) :
    k.workFor e lines =
      let attempt : Attempt :=
        { address := e.address.getD 0, writeBytes := e.writeBytes, readCount := e.readCount, speed := k.config.busSpeed,
          phase := if lines.sclHigh ∧ lines.sdaHigh then .start else .busCheck, lineStep := 0, sampled := [],
          completed := 0, received := [], refused := none }
      if lines.sclHigh ∧ lines.sdaHigh then .transferring attempt
      else .clearing (.beforeTransfer attempt false) ⟨k.config.busSpeed, 0, .release, 0⟩ := by
  have hfree : linesFree lines = true ↔ lines.sclHigh = true ∧ lines.sdaHigh = true := Bool.and_eq_true_iff
  have hwork : k.workFor e lines =
      if linesFree lines then .transferring (Attempt.ofEntry e k.config.busSpeed).begun
      else .clearing (.beforeTransfer (Attempt.ofEntry e k.config.busSpeed) false) (BusClear.begun k.config.busSpeed) := by
    obtain h | h | h := h <;> simp only [Connector.workFor, h]
  by_cases h : lines.sclHigh = true ∧ lines.sdaHigh = true
  · rw [hwork, if_pos (hfree.2 h)]
    simp only [if_pos h]
    rfl
  · rw [hwork, if_neg (mt hfree.1 h)]
    simp only [if_neg h]
    rfl

/-- The work of a PULSE_RESET and of a CLEAR_BUS (R80). -/
theorem Connector.workFor_of_pulseReset {k : Connector} {e : Entry} (lines : BusLines) (h : e.kind = .pulseReset) :
    k.workFor e lines = .pulsing (e.pulseMs.getD 0) := by
  simp only [Connector.workFor, h]

theorem Connector.workFor_of_clearBus {k : Connector} {e : Entry} (lines : BusLines) (h : e.kind = .clearBus) :
    k.workFor e lines = .clearing .requested ⟨k.config.busSpeed, 0, .release, 0⟩ := by
  simp only [Connector.workFor, h]
  rfl

/-- Work other than a pulse asserts no MRST_N. -/
theorem Connector.workFor_not_pulsing {k : Connector} {e : Entry} (lines : BusLines) (h : e.kind ≠ .pulseReset)
    (hi : k.engine.isPulsing = false) : (k.workFor e lines).isPulsing = false := by
  unfold Connector.workFor
  cases hk : e.kind with
  | pulseReset => exact absurd hk h
  | fence => exact hi
  | clearBus => rfl
  | postWrite | write | read =>
    simp only
    split <;> rfl

/-- An idle or hung engine makes no pulse. -/
theorem Connector.not_pulsing_of_mayStart {k : Connector} (h : k.mayStart = true) : k.engine.isPulsing = false := by
  obtain ⟨-, h | h, -⟩ := (Connector.mayStart_iff k).1 h <;> rw [h] <;> rfl

/-- Settles O23: the choice is the first eligible entry, and the decision starts it or ends it and decides again. -/
theorem startChoosesOldestEligible : Obligations.StartChoosesOldestEligible := by
  unfold Obligations.StartChoosesOldestEligible
  constructor
  · intro k e eligible
    have heligible : ∀ before x, eligible before x ↔ x.EligibleAfter false false before := fun before x => by
      simp [eligible, Entry.EligibleAfter]
    simp only [heligible]
    exact chooseFrom_eq_some
  intro c lines s k may
  constructor
  · intro h
    refine State.onSite_self ?_
    obtain h | h := h
    · refine Site.startDecision_idle (s.site c) lines ?_
      rw [← Bool.not_eq_true]
      exact mt (Connector.mayStart_iff_forall k).1 h
    · exact Site.startDecision_none (s.site c) lines h
  · intro older e younger hdist hmay hc hq endedBy speed attempt active
    have hm : k.mayStart = true := (Connector.mayStart_iff_forall k).2 hmay
    have hd := hdist.conn c
    have hpulse := Connector.not_pulsing_of_mayStart hm
    have hends : ∀ {status}, endsAtStart k.engine e.kind = some status → s.started c lines = endedBy status :=
      State.started_of_ends hm hc hq hd
    have hstarts := State.started_of_starts (lines := lines) hm hc hq hd
    by_cases hh : k.engine = .hung ∧ e.kind ≠ .clearBus
    · rw [if_pos hh]
      exact hends ((if_pos hh.1).trans (if_neg hh.2))
    · rw [if_neg hh]
      have hidle : e.kind ≠ .clearBus → endsAtStart k.engine e.kind = if e.kind = .fence then some .ok else none :=
        fun h => if_neg fun hhung => hh ⟨hhung, h⟩
      cases hk : e.kind with
      | fence => exact hends ((hidle (by rw [hk]; decide)).trans (if_pos hk))
      | clearBus =>
        have hclear : endsAtStart k.engine e.kind = none := by
          rw [hk]
          unfold endsAtStart
          split <;> rfl
        rw [hstarts hclear, Connector.workFor_not_pulsing lines (by rw [hk]; decide) hpulse]
        rw [Bool.or_false, Connector.workFor_of_clearBus lines hk]
      | pulseReset =>
        rw [hstarts ((hidle (by rw [hk]; decide)).trans (if_neg (by rw [hk]; decide)))]
        rw [Connector.workFor_of_pulseReset lines hk, Engine.isPulsing, Bool.or_true]
      | postWrite | write | read =>
        rw [hstarts ((hidle (by rw [hk]; decide)).trans (if_neg (by rw [hk]; decide))),
          Connector.workFor_not_pulsing lines (by rw [hk]; decide) hpulse,
          Connector.workFor_of_transfer lines (by simp [hk]), Bool.or_false]

end Sys2Proof.Machine
end

section
/-! PROOFS. Bus-class requests on an IDLE engine, and check 6 of the control requests (O55, O53). -/

namespace Sys2Proof.Machine

/-! ### An admitted request on an IDLE engine with an empty queue (R62, R77 to R80) -/

/-- A connector with the queue it has. -/
theorem Connector.with_queue {k : Connector} {q : List Entry} (h : k.queue = q) : { k with queue := q } = k := by
  subst h
  rfl

/-- The connector of an admitted request replaced. -/
theorem BusRequest.admitted_withConn (r : BusRequest) (s : State) (c : ConnId) (tag slot : Byte) (k : Connector) :
    (r.admitted s c tag slot).withConn c k = (s.taken.withConn c k).withOut (r.outAfter s c tag slot) :=
  congrArg (fun u : State => u.withOut (r.outAfter s c tag slot)) (State.withConn_withConn s.taken c _ _)

/-- The only entry of a queue, waiting, is the one chosen. -/
theorem Connector.chosen_of_single {k : Connector} {e : Entry} (hq : k.queue = [e]) (he : e.state = .waiting) :
    k.chosen = some e := by
  rw [Connector.chosen, hq, chooseFrom_eq_some]
  refine ⟨[], [], rfl, ⟨he, ?_⟩, by simp⟩
  split <;> simp

section
variable {r : BusRequest} {s : State} {c : ConnId} {tag slot : Byte} {lines : BusLines}
  (hst : s.conns[c].state = .on) (hi : s.conns[c].engine = .idle) (hq : s.conns[c].queue = [])
include hst hi hq

/-- The start decision that follows such an admission chooses the request's entry. -/
theorem BusRequest.admitted_chosen :
    (r.admitted s c tag slot).conns[c].mayStart = true ∧
      (r.admitted s c tag slot).conns[c].queue = [] ++ r.entry s.conns[c] tag slot :: [] ∧
      (r.admitted s c tag slot).conns[c].chosen = some (r.entry s.conns[c] tag slot) ∧
      (r.admitted s c tag slot).conns[c].tags.Nodup := by
  have hqueue : (r.admitted s c tag slot).conns[c].queue = [r.entry s.conns[c] tag slot] := by
    rw [BusRequest.admitted_self, hq]
    rfl
  refine ⟨?_, hqueue, Connector.chosen_of_single hqueue rfl, ?_⟩
  · rw [Connector.mayStart_iff_forall, hqueue, BusRequest.admitted_self]
    refine ⟨(congrArg ConnState.usable hst).trans rfl, .inl hi, ?_⟩
    simp [BusRequest.entry_state]
  · rw [Connector.tags, hqueue]
    simp

/-- A request other than a FENCE starts at once. -/
theorem BusRequest.started_admitted (hf : r.kind ≠ .fence) :
    (r.admitted s c tag slot).started c lines =
      (s.taken.withConn c
        { s.conns[c] with
          queue := [{ r.entry s.conns[c] tag slot with state := .active }]
          postingCounter := r.counterAfter s.conns[c]
          engine := s.conns[c].workFor (r.entry s.conns[c] tag slot) lines
          mrst := s.conns[c].mrst || (s.conns[c].workFor (r.entry s.conns[c] tag slot) lines).isPulsing }).withOut
        (r.outAfter s c tag slot) := by
  obtain ⟨hm, hqueue, hc, hd⟩ := BusRequest.admitted_chosen (r := r) (tag := tag) (slot := slot) hst hi hq
  have hstart : endsAtStart (r.admitted s c tag slot).conns[c].engine (r.entry s.conns[c] tag slot).kind = none := by
    rw [BusRequest.admitted_self]
    refine (if_neg ?_).trans (if_neg hf)
    rw [hi]
    decide
  rw [State.started_of_starts hm hc hqueue hd hstart, BusRequest.admitted_self]
  exact BusRequest.admitted_withConn r s c tag slot _

/-- A FENCE ends OK at once (R79). -/
theorem BusRequest.started_admitted_fence (hf : r.kind = .fence) :
    (r.admitted s c tag slot).started c lines = s.answered 0x13 tag .ok (.place c slot.toNat) := by
  obtain ⟨hm, hqueue, hc, hd⟩ := BusRequest.admitted_chosen (r := r) (tag := tag) (slot := slot) hst hi hq
  have hself := BusRequest.admitted_self r s c tag slot
  have hend : endsAtStart (r.admitted s c tag slot).conns[c].engine (r.entry s.conns[c] tag slot).kind = some .ok := by
    rw [hself]
    refine (if_neg ?_).trans (if_pos hf)
    rw [hi]
    decide
  have hposted : (r.entry s.conns[c] tag slot).posted = false := by
    rw [Entry.posted, BusRequest.entry, hf]
    rfl
  have hreport : ∀ o : Outbound, o.afterEnd c { r.entry s.conns[c] tag slot with acked := 0 } .ok [] =
      o.respond { code := 0x13, tag, status := .ok, body := .place c slot.toNat } := by
    intro o
    refine (if_pos hposted).trans ?_
    simp only [Entry.finalResponse, BusRequest.entry, hf]
    rfl
  have hout : (r.admitted s c tag slot).out = s.out := if_neg (by rw [hf]; decide)
  have hconn : ({ (r.admitted s c tag slot).conns[c] with queue := [] ++ [] } : Connector) = s.conns[c] := by
    rw [hself, BusRequest.counterAfter, if_neg (by rw [hf]; decide)]
    exact Connector.with_queue hq
  have hleft : ((r.admitted s c tag slot).withConn c { (r.admitted s c tag slot).conns[c] with queue := [] ++ [] }) =
      s.taken := by
    rw [hconn, BusRequest.admitted_withConn, BusRequest.outAfter, if_neg (by rw [hf]; decide)]
    exact congrArg (fun u : State => u.withOut s.out) (State.withConn_self s.taken c)
  rw [State.started_of_ends hm hc hqueue hd hend, hreport, hout, hleft, State.drained, if_neg, State.started_of_queue_nil]
  · rfl
  · exact hq
  · exact fun h => ConnState.noConfusion (hst.symm.trans h.1)

end

/-- Settles O55: the entry joins the tail and a start decision follows; on an IDLE engine with nothing held it starts. -/
theorem busRequestsStartOnIdleEngine : Obligations.BusRequestsStartOnIdleEngine := by
  unfold Obligations.BusRequestsStartOnIdleEngine
  intro r tag slot c lines rest s hr hq hlen hadm hslot k e out speed attempt after
  have hexec := BusRequest.exec_command_of_admitted lines hr hlen hq hadm hslot
  refine ⟨hexec, fun hst hi hempty => ?_⟩
  rw [hexec]
  refine congrArg Host.Outcome.next ?_
  have hstarted := BusRequest.started_admitted (r := r) (tag := tag) (slot := slot) (lines := lines) hst hi hempty
  have hquiet : r.kind ≠ .pulseReset → (k.workFor e lines).isPulsing = false := fun h =>
    Connector.workFor_not_pulsing lines h (by rw [hi]; rfl)
  cases hk : r.kind with
  | fence => exact BusRequest.started_admitted_fence hst hi hempty hk
  | pulseReset =>
    have hwork := Connector.workFor_of_pulseReset (k := k) (e := e) lines hk
    have hlength : e.pulseMs.getD 0 = r.count.toNat := by simp [e, BusRequest.entry, hk]
    rw [hstarted (by rw [hk]; decide), hwork, hlength, Engine.isPulsing, Bool.or_true]
  | clearBus =>
    have hwork := Connector.workFor_of_clearBus (k := k) (e := e) lines hk
    rw [hstarted (by rw [hk]; decide), hquiet (by rw [hk]; decide), hwork, Bool.or_false]
  | postWrite | write | read =>
    have haddress : e.address.getD 0 = r.address := by simp [e, BusRequest.entry, hk]
    have hdata : e.writeBytes = r.data := by simp [e, BusRequest.entry, hk]
    have hwork := Connector.workFor_of_transfer (k := k) (e := e) lines (by simp [e, BusRequest.entry, hk])
    rw [hstarted (by rw [hk]; decide), hquiet (by rw [hk]; decide), hwork, Bool.or_false]
    simp only [haddress, hdata]
    rfl

end Sys2Proof.Machine
end

section
/-! PROOFS. Check 6 of the control requests and CANCEL, and the order of the checks of every request (O53). -/

namespace Sys2Proof.Machine

/-! ### Selectors in range (R186) -/

/-- A byte other than 0 and 1 is above 1. -/
theorem one_lt_toNat {b : Byte} (h0 : b ≠ 0x00) (h1 : b ≠ 0x01) : ¬b.toNat ≤ 1 := by
  intro h
  have h0' : b.toNat ≠ 0 := fun e => h0 (BitVec.eq_of_toNat_eq e)
  have h1' : b.toNat ≠ 1 := fun e => h1 (BitVec.eq_of_toNat_eq e)
  omega

/-- A selector of two values is one of them exactly where it is at most 1 (R186). -/
theorem selector_isSome {α : Type} (b : Byte) (x y : α) :
    (if b = 0x00 then some x else if b = 0x01 then some y else none).isSome = decide (b.toNat ≤ 1) := by
  by_cases h0 : b = 0x00
  · subst h0; rfl
  · by_cases h1 : b = 0x01
    · subst h1; rfl
    · rw [if_neg h0, if_neg h1]
      exact (decide_eq_false (one_lt_toNat h0 h1)).symm

theorem flagOf_isSome (b : Byte) : (flagOf b).isSome = decide (b.toNat ≤ 1) := selector_isSome b _ _

theorem speedOf_isSome (b : Byte) : (speedOf b).isSome = decide (b.toNat ≤ 1) := selector_isSome b _ _

theorem lossActionOf_isSome (b : Byte) : (lossActionOf b).isSome = decide (b.toNat ≤ 1) := selector_isSome b _ _

theorem mapEntryOf_isSome (b : Byte) : (mapEntryOf b).isSome = (decide (b.toNat ≤ 7) || b == 0xFF) := by
  unfold mapEntryOf
  by_cases hnone : b = Config.noConnector
  · subst hnone; rfl
  · have hff : (b == 0xFF) = false := beq_eq_false_iff_ne.2 hnone
    rw [if_neg hnone, hff, Bool.or_false]
    by_cases h : b.toNat < 8
    · rw [dif_pos h]
      exact (decide_eq_true (Nat.le_of_lt_succ h)).symm
    · rw [dif_neg h]
      exact (decide_eq_false fun hle => h (Nat.lt_succ_of_le hle)).symm

/-- A table of eight entries is read exactly where every entry is in range (R14, R54). -/
theorem tableOf_isSome {entries : List Byte} (hlen : entries.length = 8) :
    (tableOf entries).isSome = entries.all fun b => (mapEntryOf b).isSome := by
  by_cases hall : ∀ b ∈ entries, (mapEntryOf b).isSome = true
  · rw [List.all_eq_true.2 hall]
    have hmap : entries.map mapEntryOf = (entries.map fun b => (mapEntryOf b).getD none).map some := by
      rw [List.map_map]
      refine List.map_congr_left fun b hb => ?_
      obtain ⟨entry, h⟩ := Option.isSome_iff_exists.1 (hall b hb)
      simp [h]
    have hvals : (entries.map fun b => (mapEntryOf b).getD none).length = 8 := by rw [List.length_map, hlen]
    rw [tableOf, hmap]
    match entries.map fun b => (mapEntryOf b).getD none, hvals with
    | [_, _, _, _, _, _, _, _], _ => rfl
  · rw [show entries.all _ = false from Bool.eq_false_iff.2 (mt List.all_eq_true.1 hall), ← Bool.not_eq_true]
    intro h
    refine hall fun b hb => ?_
    have hmem : mapEntryOf b ∈ entries.map mapEntryOf := List.mem_map_of_mem hb
    unfold tableOf at h
    split at h
    next hmap =>
      rw [hmap] at hmem
      simp only [List.mem_cons, List.not_mem_nil, or_false] at hmem
      obtain h | h | h | h | h | h | h | h := hmem <;> rw [h] <;> rfl
    next => cases h

/-- A record of fifteen bytes is read exactly where every field is in range (R169). -/
theorem SlotConfig.decode_isSome (power retry inrush qualify pgLow pgHigh delay window debounce speed interval posted
    lifeLow lifeHigh quota : Byte) :
    (SlotConfig.decode [power, retry, inrush, qualify, pgLow, pgHigh, delay, window, debounce, speed, interval, posted,
        lifeLow, lifeHigh, quota]).isSome =
      decide (power.toNat ≤ 1 ∧ retry.toNat ≤ 1 ∧ speed.toNat ≤ 1 ∧ 1 ≤ inrush.toNat ∧ qualify.toNat ≤ 15 ∧
        5 ≤ pgLow.toNat + 256 * pgHigh.toNat ∧ pgLow.toNat + 256 * pgHigh.toNat ≤ 1000 ∧ 1 ≤ delay.toNat ∧
        1 ≤ window.toNat ∧ 1 ≤ debounce.toNat ∧ 1 ≤ interval.toNat ∧ posted.toNat ≤ 15 ∧
        (lifeLow.toNat + 256 * lifeHigh.toNat = 0 ∨
          10 ≤ lifeLow.toNat + 256 * lifeHigh.toNat ∧ lifeLow.toNat + 256 * lifeHigh.toNat ≤ 60000) ∧
        1 ≤ quota.toNat ∧ quota.toNat ≤ 16) := by
  have hp := flagOf_isSome power
  have hr := flagOf_isSome retry
  have hs := speedOf_isSome speed
  cases hpower : flagOf power with
  | none => rw [hpower] at hp; simp [SlotConfig.decode, hpower, of_decide_eq_false hp.symm]
  | some autoPower =>
    cases hretry : flagOf retry with
    | none => rw [hretry] at hr; simp [SlotConfig.decode, hpower, hretry, of_decide_eq_false hr.symm]
    | some autoRetry =>
      cases hspeed : speedOf speed with
      | none => rw [hspeed] at hs; simp [SlotConfig.decode, hpower, hretry, hspeed, of_decide_eq_false hs.symm]
      | some busSpeed =>
        rw [hpower] at hp
        rw [hretry] at hr
        rw [hspeed] at hs
        have hp := of_decide_eq_true hp.symm
        have hr := of_decide_eq_true hr.symm
        have hs := of_decide_eq_true hs.symm
        have h1 := inrush.isLt
        have h2 := delay.isLt
        have h3 := window.isLt
        have h4 := debounce.isLt
        have h5 := interval.isLt
        rw [Bool.eq_iff_iff]
        simp only [SlotConfig.decode, hpower, hretry, hspeed, SlotConfig.inRange, wordOf_toNat, decide_eq_true_eq]
        rw [Option.isSome_ite]
        omega

/-! ### Checks 2 to 6 of the control requests and CANCEL (R53) -/

/-- Check 6 fails, on a request that names no slot. -/
theorem State.admitPart_of_out_of_range {α : Type} {s : State} {m : Message} {rest : List Message}
    {accepts : Message → Bool} {parse : Message → Option α} {inRange : α → Bool} {act : State → Byte → α → State}
    {fields : α} (hq : s.admissionQueue = m :: rest) (ha : accepts m = true) (hp : parse m = some fields)
    (hc : s.commonRefusal (tagOf m) = none) (hi : inRange fields = false) :
    s.admitPart accepts parse inRange act = s.answered (codeOf m) (tagOf m) .badParam .empty := by
  rw [State.admitPart, State.takeMessage_cons s _ _ m rest hq ha]
  simp only [hp, State.earlyRefusal_taken, hc, hi, State.refuse_taken]
  rfl

/-- A request command answers a message of its own with the status of the first of checks 2 to 6 that fails. -/
structure Refuses (i : Instr) (code : Byte) : Prop where
  refused : ∀ {s : State} {tag : Byte} {fields : List Byte} {rest : List Message} {status : Status}, s.resetting = none →
    s.admissionQueue = (code :: tag :: fields) :: rest → takes i (code :: tag :: fields) = true →
    lengthFits (code :: tag :: fields) = true → s.controlRefusal (code :: tag :: fields) = some status →
    exec i s = .next (s.answered code tag status .empty)

/-- The checks after the decoding, by what the code, the tag and the other bytes are (R53). -/
theorem State.controlRefusal_cons (s : State) (code tag : Byte) (fields : List Byte) :
    s.controlRefusal (code :: tag :: fields) =
      match s.commonRefusal tag with
      | some status => some status
      | none =>
        if 6 ≤ code.toNat ∧ code.toNat ≤ 0x0B ∧ s.resolve ((fields[0]?).getD 0) = none then some .badSlot
        else if controlInRange (code :: tag :: fields) then none
        else some .badParam := rfl

section
variable {α : Type} {i : Instr} {code : Byte} {accepts : Message → Bool}

/-- The commands of requests that name no slot. -/
theorem Refuses.ofPart {parse : Message → Option α} {inRange : α → Bool} {act : State → Byte → α → State}
    (hexec : ∀ s, exec i s = s.whenRunning fun s => s.admitPart accepts parse inRange act)
    (hacc : ∀ m, accepts m = takes i m) (hparse : ReadsBy code parse)
    (hcode : ¬(6 ≤ code.toNat ∧ code.toNat ≤ 0x0B))
    (hrange : ∀ tag fields x, parse (code :: tag :: fields) = some x →
      inRange x = controlInRange (code :: tag :: fields)) : Refuses i code := by
  refine ⟨fun {s tag fields rest status} hr hq ht hl href => ?_⟩
  have ha := (hacc _).trans ht
  obtain ⟨x, hp⟩ := hparse.exists rfl hl
  rw [hexec, State.whenRunning_running hr]
  rw [State.controlRefusal_cons] at href
  refine congrArg Host.Outcome.next ?_
  cases hc : s.commonRefusal tag with
  | some refusal =>
    rw [hc] at href
    obtain rfl := Option.some.inj href
    exact State.admitPart_of_commonRefusal_some hq ha hp hc
  | none =>
    simp only [hc] at href
    rw [if_neg fun h => hcode ⟨h.1, h.2.1⟩, ← hrange tag fields x hp] at href
    cases hi : inRange x with
    | true => rw [hi] at href; cases href
    | false =>
      rw [hi] at href
      obtain rfl := Option.some.inj href
      exact State.admitPart_of_out_of_range hq ha hp hc hi

/-- The commands of requests that name a slot. -/
theorem Refuses.ofSlot {parse : Message → Option (Byte × α)} {inRange : α → Bool}
    {act : State → Byte → Byte → ConnId → α → State}
    (hexec : ∀ s, exec i s = s.whenRunning fun s => s.admitSlot accepts parse inRange act)
    (hacc : ∀ m, accepts m = takes i m) (hparse : ReadsBy code parse) (hcode : 6 ≤ code.toNat ∧ code.toNat ≤ 0x0B)
    (hrange : ∀ tag fields slot x, parse (code :: tag :: fields) = some (slot, x) →
      (fields[0]?).getD 0 = slot ∧ inRange x = controlInRange (code :: tag :: fields)) : Refuses i code := by
  refine ⟨fun {s tag fields rest status} hr hq ht hl href => ?_⟩
  have ha := (hacc _).trans ht
  obtain ⟨⟨slot, x⟩, hp⟩ := hparse.exists rfl hl
  obtain ⟨hslot, hin⟩ := hrange tag fields slot x hp
  rw [hexec, State.whenRunning_running hr]
  rw [State.controlRefusal_cons, hslot, ← hin] at href
  refine congrArg Host.Outcome.next ?_
  cases hc : s.commonRefusal tag with
  | some refusal =>
    rw [hc] at href
    obtain rfl := Option.some.inj href
    exact State.admitSlot_of_commonRefusal_some hq ha hp hc
  | none =>
    simp only [hc] at href
    refine (State.admitSlot_of_commonRefusal_none (inRange := inRange) (act := act) hq ha hp hc).trans ?_
    cases hres : s.resolve slot with
    | none =>
      rw [if_pos ⟨hcode.1, hcode.2, hres⟩] at href
      obtain rfl := Option.some.inj href
      rfl
    | some c =>
      rw [if_neg (by simp [hres])] at href
      cases hi : inRange x with
      | true => rw [hi] at href; cases href
      | false =>
        rw [hi] at href
        obtain rfl := Option.some.inj href
        rfl

end

/-! The fields of each request, read back from its message (R185). -/

theorem parseByte_eq_some {m : Message} {b : Byte} (h : parseByte m = some b) : ∃ code tag, m = [code, tag, b] := by
  unfold parseByte at h
  split at h
  next code tag _ => cases h; exact ⟨code, tag, rfl⟩
  next => cases h

theorem parseSlot_eq_some {m : Message} {slot : Byte} {x : Unit} (h : parseSlot m = some (slot, x)) :
    ∃ code tag, m = [code, tag, slot] := by
  obtain ⟨b, hb, he⟩ := Option.map_eq_some_iff.1 h
  obtain ⟨rfl, -⟩ := Prod.mk.inj he
  exact parseByte_eq_some hb

theorem parseSlotByte_eq_some {m : Message} {slot b : Byte} (h : parseSlotByte m = some (slot, b)) :
    ∃ code tag, m = [code, tag, slot, b] := by
  unfold parseSlotByte at h
  split at h
  next code tag _ _ => cases h; exact ⟨code, tag, rfl⟩
  next => cases h

theorem parseSetLink_eq_some {m : Message} {f : SetLinkFields} (h : parseSetLink m = some f) :
    ∃ code tag low high loss action, m = [code, tag, low, high, loss, action] ∧
      f = ⟨low.toNat + 256 * high.toNat, loss.toNat, action⟩ := by
  unfold parseSetLink at h
  split at h
  next code tag low high loss action =>
    cases h
    exact ⟨code, tag, low, high, loss, action, rfl, by rw [wordOf_toNat]⟩
  next => cases h

theorem parseSetSlotMap_eq_some {m : Message} {entries : List Byte} (h : parseSetSlotMap m = some entries) :
    ∃ code tag count, m = code :: tag :: count :: entries ∧ entries.length = 8 := by
  unfold parseSetSlotMap at h
  split at h
  next code tag count _ =>
    split at h
    next hlen => cases h; exact ⟨code, tag, count, rfl, hlen.2⟩
    next => cases h
  next => cases h

theorem parseConfigure_eq_some {m : Message} {slot : Byte} {record : List Byte}
    (h : parseConfigure m = some (slot, record)) : ∃ code tag, m = code :: tag :: slot :: record ∧ record.length = 15 := by
  unfold parseConfigure at h
  split at h
  next code tag _ _ =>
    split at h
    next hlen => cases h; exact ⟨code, tag, rfl, hlen⟩
    next => cases h
  next => cases h

/-- A power-on, clear, arm or status request has nothing to range over. -/
theorem slotOnly_inRange {code : Byte} (hc : code = 0x07 ∨ code = 0x08 ∨ code = 0x0A ∨ code = 0x0B) (tag : Byte)
    (fields : List Byte) (slot : Byte) (x : Unit) (h : parseSlot (code :: tag :: fields) = some (slot, x)) :
    (fields[0]?).getD 0 = slot ∧ true = controlInRange (code :: tag :: fields) := by
  obtain ⟨_, _, hm⟩ := parseSlot_eq_some h
  cases hm
  obtain rfl | rfl | rfl | rfl := hc <;> exact ⟨rfl, rfl⟩

/-- The mode of a SLOT_POWER_OFF (R186). -/
theorem powerOff_inRange (tag : Byte) (fields : List Byte) (slot mode : Byte)
    (h : parseSlotByte (0x09 :: tag :: fields) = some (slot, mode)) :
    (fields[0]?).getD 0 = slot ∧ (flagOf mode).isSome = controlInRange (0x09 :: tag :: fields) := by
  obtain ⟨_, _, hm⟩ := parseSlotByte_eq_some h
  cases hm
  exact ⟨rfl, flagOf_isSome mode⟩

/-- The record of a SLOT_CONFIGURE (R169). -/
theorem configure_inRange (tag : Byte) (fields : List Byte) (slot : Byte) (record : List Byte)
    (h : parseConfigure (0x06 :: tag :: fields) = some (slot, record)) :
    (fields[0]?).getD 0 = slot ∧ (SlotConfig.decode record).isSome = controlInRange (0x06 :: tag :: fields) := by
  obtain ⟨_, _, hm, hlen⟩ := parseConfigure_eq_some h
  cases hm
  refine ⟨rfl, ?_⟩
  match record, hlen with
  | [power, retry, inrush, qualify, pgLow, pgHigh, delay, window, debounce, speed, interval, posted, lifeLow, lifeHigh,
      quota], _ =>
    rw [SlotConfig.decode_isSome, Bool.eq_iff_iff]
    simp [controlInRange, byteAt, wordAt]
    omega

/-- The flag of a GET_STATUS (R186). -/
theorem getStatus_inRange (tag : Byte) (fields : List Byte) (flag : Byte)
    (h : parseByte (0x01 :: tag :: fields) = some flag) :
    (flagOf flag).isSome = controlInRange (0x01 :: tag :: fields) := by
  obtain ⟨_, _, hm⟩ := parseByte_eq_some h
  cases hm
  exact flagOf_isSome flag

/-- The target of a CANCEL (R67). -/
theorem cancel_inRange (tag : Byte) (fields : List Byte) (target : Byte)
    (h : parseByte (0x16 :: tag :: fields) = some target) :
    decide (target.toNat < 32) = controlInRange (0x16 :: tag :: fields) := by
  obtain ⟨_, _, hm⟩ := parseByte_eq_some h
  cases hm
  exact decide_eq_decide.2 Nat.lt_succ_iff

/-- The parameters of a SET_LINK (R177). -/
theorem setLink_inRange (tag : Byte) (fields : List Byte) (f : SetLinkFields)
    (h : parseSetLink (0x02 :: tag :: fields) = some f) : f.inRange = controlInRange (0x02 :: tag :: fields) := by
  obtain ⟨_, _, low, high, loss, action, hm, rfl⟩ := parseSetLink_eq_some h
  cases hm
  have hloss := loss.isLt
  rw [SetLinkFields.inRange, lossActionOf_isSome, Bool.eq_iff_iff]
  simp [controlInRange, byteAt, wordAt]
  omega

/-- The entries of a SET_SLOT_MAP (R54). -/
theorem setSlotMap_inRange (tag : Byte) (fields entries : List Byte)
    (h : parseSetSlotMap (0x04 :: tag :: fields) = some entries) :
    (tableOf entries).isSome = controlInRange (0x04 :: tag :: fields) := by
  obtain ⟨_, _, count, hm, hlen⟩ := parseSetSlotMap_eq_some h
  cases hm
  simp only [tableOf_isSome hlen, mapEntryOf_isSome]
  rfl

/-- Every control request and CANCEL (R53, R54). -/
theorem controlCommands_refuse (lines : BusLines) :
    ∀ p ∈ requestCommands lines, p.1.toNat < 0x10 ∨ p.1 = 0x16 → Refuses p.2 p.1 := by
  have bus : ∀ {i code}, ¬(code.toNat < 0x10 ∨ code = 0x16) → code.toNat < 0x10 ∨ code = 0x16 → Refuses i code :=
    fun h h' => absurd h' h
  simp only [requestCommands, List.forall_mem_cons]
  exact
    ⟨fun _ => .ofPart (fun _ => rfl) (hasCode_eq_takes rfl nofun nofun) (readsBy_parseByte (by simp)) (by decide)
      getStatus_inRange,
    fun _ => .ofPart (fun _ => rfl) (hasCode_eq_takes rfl nofun nofun) readsBy_parseSetLink (by decide) setLink_inRange,
    fun _ => .ofPart (fun _ => rfl) (hasCode_eq_takes rfl nofun nofun) (readsBy_parseBare (by simp)) (by decide)
      fun _ _ _ _ => rfl,
    fun _ => .ofPart (fun _ => rfl) (hasCode_eq_takes rfl nofun nofun) readsBy_parseSetSlotMap (by decide)
      setSlotMap_inRange,
    fun _ => .ofPart (fun _ => rfl) (hasCode_eq_takes rfl nofun nofun) (readsBy_parseBare (by simp)) (by decide)
      fun _ _ _ _ => rfl,
    fun _ => .ofSlot (fun _ => rfl) (hasCode_eq_takes rfl nofun nofun) readsBy_parseConfigure (by decide)
      configure_inRange,
    fun _ => .ofSlot (fun _ => rfl) (hasCode_eq_takes rfl nofun nofun) (readsBy_parseSlot (by simp)) (by decide)
      (slotOnly_inRange (by simp)),
    fun _ => .ofSlot (fun _ => rfl) (hasCode_eq_takes rfl nofun nofun) (readsBy_parseSlot (by simp)) (by decide)
      (slotOnly_inRange (by simp)),
    fun _ => .ofSlot (fun _ => rfl) accepts_slotPowerOffAbort (readsBy_parseSlotByte (by simp)) (by decide)
      powerOff_inRange,
    fun _ => .ofSlot (fun _ => rfl) accepts_slotPowerOffDrain (readsBy_parseSlotByte (by simp)) (by decide)
      powerOff_inRange,
    fun _ => .ofSlot (fun _ => rfl) (hasCode_eq_takes rfl nofun nofun) (readsBy_parseSlot (by simp)) (by decide)
      (slotOnly_inRange (by simp)),
    fun _ => .ofSlot (fun _ => rfl) (hasCode_eq_takes rfl nofun nofun) (readsBy_parseSlot (by simp)) (by decide)
      (slotOnly_inRange (by simp)),
    bus (by decide), bus (by decide), bus (by decide), bus (by decide), bus (by decide), bus (by decide),
    fun _ => .ofPart (fun _ => rfl) (hasCode_eq_takes rfl nofun nofun) (readsBy_parseByte (by simp)) (by decide)
      cancel_inRange, List.forall_mem_nil _⟩

/-- Settles O53: a bus-class request by its fields, a control request or CANCEL by its row. -/
theorem busRequestsAreRefusedInOrder : Obligations.BusRequestsAreRefusedInOrder := by
  unfold Obligations.BusRequestsAreRefusedInOrder
  refine ⟨fun r tag slot status lines rest s hr hlen hq h => BusRequest.exec_command_of_refusal lines hr hlen hq h, ?_⟩
  intro i code tag fields status rest s m hr hq ht hknown hcontrol hl href
  have hi : i ≠ .unknownRequest := by
    rintro rfl
    have : code ∉ knownCodes := by simpa [takes, m] using ht
    exact this hknown
  have hcode : requestCode i = some code := by
    simp only [takes, if_neg hi, Bool.and_eq_true, beq_iff_eq] at ht
    exact ht.1.1.2.symm
  obtain ⟨lines, hmem⟩ := mem_requestCommands hcode
  exact (controlCommands_refuse lines _ hmem hcontrol).refused hr hq ht hl href

end Sys2Proof.Machine
end

section
/-! PROOFS. What the sequencer does with the engine's reports and its own timers (O56, O58, O59). -/

namespace Sys2Proof.Machine

/-! ### Acting on the connector, then deciding -/

/-- An action followed by a start decision. -/
theorem State.onSite_startDecision {s : State} {c : ConnId} {f : Site → Site} (lines : BusLines)
    (hf : (f (s.site c)).place = (s.site c).place) :
    (s.onSite c fun t => (f t).startDecision lines) = (s.onSite c f).started c lines :=
  (State.onSite_onSite (fun t => t.startDecision lines) hf).symm

section
variable {s : State} {c : ConnId} {k : Connector} {older younger : List Entry} {e : Entry}
  (hq : k.queue = older ++ e :: younger) (ho : ∀ x ∈ older, x.state ≠ .active) (he : e.state = .active)
include hq ho he

/-- The ACTIVE entry ends (R86, R87). -/
theorem State.onSite_endActive (hd : k.tags.Nodup) (acked : Entry → Nat) (status : Status) (data : List Byte) :
    ((s.withConn c k).onSite c fun t => t.endActive acked status data) =
      ((s.withConn c { k with queue := older ++ younger }).withOut
        (s.out.afterEnd c { e with acked := acked e } status data)).drained c := by
  rw [← State.onSite_endEntry (e := { e with acked := acked e }) hq rfl hd status data]
  refine State.onSite_congr ?_
  have hactive : ((s.withConn c k).site c).conn.activeEntry = some e := by
    rw [show ((s.withConn c k).site c).conn = k from s.withConn_getElem_self c k]
    exact Connector.activeEntry_of_queue hq ho he
  simp only [Site.endActive, hactive]

/-- The ACTIVE entry ends and a start decision follows. -/
theorem State.onSite_endActive_started (hd : k.tags.Nodup) (acked : Entry → Nat) (status : Status) (data : List Byte)
    (lines : BusLines) :
    ((s.withConn c k).onSite c fun t => (t.endActive acked status data).startDecision lines) =
      (((s.withConn c { k with queue := older ++ younger }).withOut
        (s.out.afterEnd c { e with acked := acked e } status data)).drained c).started c lines := by
  rw [State.onSite_startDecision lines (Site.endActive_place _ _ _ _), State.onSite_endActive hq ho he hd]

/-- The ACTIVE entry is changed in its place. -/
theorem State.onSite_updateActive (f : Entry → Entry) :
    ((s.withConn c k).onSite c fun t => t.updateActive f) =
      s.withConn c { k with queue := older ++ f e :: younger } := by
  have hread := s.withConn_getElem_self c k
  have hset : ((s.withConn c k).onSite c fun t => t.updateActive f) =
      (s.withConn c k).withConn c { k with queue := updateFirst (fun x => x.state == .active) f k.queue } := by
    have h := (s.withConn c k).onSite_setConn c fun k =>
      { k with queue := updateFirst (fun x => x.state == .active) f k.queue }
    rw [hread] at h
    exact h
  rw [hset, State.withConn_withConn, hq, updateFirst_append_cons f (by simpa using ho) (by simp [he])]

end

/-! ### The outcomes an attempt can reach (R107, R108, R110) -/

section
variable {a : Attempt}

theorem Attempt.canEnd_done (hn : a.completed ≤ a.writeBytes.length + a.readCount.getD 0) :
    a.canEnd .done = true ↔ a.refused = none ∧ a.completed = a.writeBytes.length + a.readCount.getD 0 := by
  unfold Attempt.canEnd
  cases hr : a.refused with
  | some byte => cases byte <;> simp
  | none =>
    by_cases ht : a.total ≤ a.completed
    · simp only [Attempt.nextData_of_total ht, Option.isNone_none, true_and, true_iff]
      exact Nat.le_antisymm hn ht
    · have hsome : a.nextData.isNone = false := by
        by_cases hw : a.completed < a.writeBytes.length
        · obtain ⟨b, h⟩ := Attempt.nextData_of_lt hw
          rw [h]; rfl
        · obtain ⟨last, h⟩ := Attempt.nextData_of_read (Nat.le_of_not_lt hw) (Nat.lt_of_not_le ht)
          rw [h]; rfl
      simp only [hsome, true_and, Bool.false_eq_true, false_iff]
      exact fun h => ht (Nat.le_of_eq h.symm)

theorem Attempt.canEnd_dataNak :
    a.canEnd .dataNak = true ↔
      a.refused = some .data ∨ (a.refused = none ∧ a.completed < a.writeBytes.length ∧ a.sampled = []) := by
  unfold Attempt.canEnd
  cases hr : a.refused with
  | some byte => cases byte <;> simp
  | none =>
    by_cases hw : a.completed < a.writeBytes.length
    · obtain ⟨b, h⟩ := Attempt.nextData_of_lt hw
      simp [Attempt.sendPending, h, hw]
    · by_cases ht : a.total ≤ a.completed
      · simp [Attempt.sendPending, Attempt.nextData_of_total ht, hw]
      · obtain ⟨last, h⟩ := Attempt.nextData_of_read (Nat.le_of_not_lt hw) (Nat.lt_of_not_le ht)
        simp [Attempt.sendPending, h, hw]

theorem Attempt.canEnd_addressNak (hp : a.phase ≠ .busCheck) :
    a.canEnd .addressNak = true ↔
      a.refused = some .address ∨
        (a.refused = none ∧
          (a.phase = .start ∨ a.phase = .writeAddress ∨ a.phase = .repeatedStart ∨ a.phase = .readAddress)) := by
  unfold Attempt.canEnd
  cases hr : a.refused with
  | some byte => cases byte <;> simp
  | none =>
    cases h : a.phase <;> simp [Attempt.addressPending, h]
    exact hp h

end

/-! ### The engine's reports on an entry at work -/

section
variable {s : State} {c : ConnId} {a : Attempt} {lines : BusLines} (hr : s.resetting = none)
  (heng : s.conns[c].engine = .transferring a)
include hr heng

/-- An outcome the attempt can reach leaves the engine IDLE (R82, R110). -/
theorem exec_attemptOutcome_of_canEnd {outcome : AttemptOutcome} (h : a.canEnd outcome = true) :
    exec (.attemptOutcome c outcome lines) s =
      .next (s.onSite c fun t => (t.attemptEnds a outcome).startDecision lines) := by
  change execAttemptOutcome c outcome lines s = _
  rw [execAttemptOutcome, State.whenRunning_running hr]
  refine congrArg Host.Outcome.next (State.onSite_congr ?_)
  simp only [show (s.site c).conn.engine = _ from heng, h, if_true]

/-- An outcome ruled out changes nothing (log entry 3). -/
theorem exec_attemptOutcome_of_not_canEnd {outcome : AttemptOutcome} (h : ¬a.canEnd outcome = true) :
    exec (.attemptOutcome c outcome lines) s = .next s := by
  change execAttemptOutcome c outcome lines s = _
  rw [execAttemptOutcome, State.whenRunning_running hr]
  refine congrArg Host.Outcome.next (State.onSite_self ?_)
  simp only [show (s.site c).conn.engine = _ from heng, if_neg h]

end

/-- Settles O58: what the readings rule out changes nothing; the rest leaves the engine IDLE and ends the entry or sends it
to BACKOFF. -/
theorem attemptOutcomesAreTaken : Obligations.AttemptOutcomesAreTaken := by
  unfold Obligations.AttemptOutcomesAreTaken
  intro c a older younger e lines s hr hdist k n ended done dataRefused addressRefused heng hq ho he hp hn
  have hd := hdist.conn c
  let idle : Connector := { k with engine := .idle }
  have hends : ∀ acked status data,
      (s.onSite c fun t =>
        ((t.setConn { t.conn with engine := .idle }).endActive (fun _ => acked) status data).startDecision lines) =
        ended acked status data := fun acked status data =>
    (State.onSite_setConn_then s c (fun k => { k with engine := .idle }) fun t =>
        (t.endActive (fun _ => acked) status data).startDecision lines).trans
      (State.onSite_endActive_started (k := idle) hq ho he hd (fun _ => acked) status data lines)
  have hdone : a.canEnd .done = true ↔ done := Attempt.canEnd_done hn
  have hdata : a.canEnd .dataNak = true ↔ dataRefused := Attempt.canEnd_dataNak
  have haddress : a.canEnd .addressNak = true ↔ addressRefused := Attempt.canEnd_addressNak hp
  have hactive : (s.site c).conn.activeEntry = some e := Connector.activeEntry_of_queue hq ho he
  refine ⟨fun h => ?_, fun h => ?_, fun budget used h hb hu hle => ?_, fun budget used h hb hu hlt => ?_, fun h => ?_,
    fun h => ?_, fun h => ?_⟩
  · rw [exec_attemptOutcome_of_canEnd hr heng (hdone.2 h)]
    exact congrArg Host.Outcome.next (hends n .ok a.received)
  · rw [exec_attemptOutcome_of_canEnd hr heng (hdata.2 h)]
    exact congrArg Host.Outcome.next (hends n .dataRefused [])
  · rw [exec_attemptOutcome_of_canEnd hr heng (haddress.2 h), ← hends]
    refine congrArg Host.Outcome.next (State.onSite_congr ?_)
    have hspent : e.budgetLeft = false := by
      simp only [Entry.budgetLeft, hb, hu, decide_eq_false_iff_not]
      exact Nat.not_lt.2 hle
    have hleft : ((s.site c).setConn { (s.site c).conn with engine := .idle }).conn.activeEntry = some e := hactive
    simp only [Site.attemptEnds, Site.addressRefused, hleft, hspent]
    rfl
  · rw [exec_attemptOutcome_of_canEnd hr heng (haddress.2 h)]
    refine congrArg Host.Outcome.next ?_
    have hleft : e.budgetLeft = true := by
      simp only [Entry.budgetLeft, hb, hu, decide_eq_true_eq]
      exact hlt
    let backoff : Entry → Entry := fun e =>
      { e with
        state := .backoff, acked := 0, retriesUsed := e.retriesUsed.map fun used => used + 1,
        retryTimer := some k.config.retryIntervalMs }
    have hbackoff : backoff e =
        { e with
          state := .backoff, acked := 0, retriesUsed := some (used + 1), retryTimer := some k.config.retryIntervalMs } := by
      simp only [backoff, hu, Option.map_some]
    have hsite : ((s.site c).attemptEnds a .addressNak).startDecision lines =
        (((s.site c).setConn { (s.site c).conn with engine := .idle }).updateActive backoff).startDecision lines := by
      have hfound : ((s.site c).setConn { (s.site c).conn with engine := .idle }).conn.activeEntry = some e := hactive
      simp only [Site.attemptEnds, Site.addressRefused, hfound, hleft, if_true]
      rfl
    calc
      (s.onSite c fun t => (t.attemptEnds a .addressNak).startDecision lines)
      _ = s.onSite c fun t => ((t.setConn { t.conn with engine := .idle }).updateActive backoff).startDecision lines :=
        State.onSite_congr hsite
      _ = (s.withConn c idle).onSite c fun t => (t.updateActive backoff).startDecision lines :=
        State.onSite_setConn_then s c (fun k => { k with engine := .idle }) fun t =>
          (t.updateActive backoff).startDecision lines
      _ = _ := by
        rw [State.onSite_startDecision lines (Site.updateActive_place _ _),
          State.onSite_updateActive (k := idle) hq ho he, hbackoff]
  · exact exec_attemptOutcome_of_not_canEnd hr heng (mt hdone.1 h)
  · exact exec_attemptOutcome_of_not_canEnd hr heng (mt hdata.1 h)
  · exact exec_attemptOutcome_of_not_canEnd hr heng (mt haddress.1 h)

/-! ### A step about the entry that holds a tag (R72) -/

section
variable {s : State} {c : ConnId} {older younger : List Entry} {e : Entry} (hdist : s.TagsDistinct)
  (hq : s.conns[c].queue = older ++ e :: younger)
include hdist hq

theorem State.onEntry_of_queue (f : Site → Entry → Site) : s.onEntry e.tag f = s.onSite c fun t => f t e := by
  have hholder : s.tagHolder e.tag = some c := State.tagHolder_of_mem hdist (by
    rw [Connector.tags, hq]
    simp)
  have hentry : (s.site c).conn.entryOf e.tag = some e := Connector.entryOf_of_queue hq (hdist.conn c)
  simp only [State.onEntry, hholder]
  refine State.onSite_congr ?_
  simp only [hentry]

/-- The entry is changed in its place. -/
theorem State.onSite_updateEntry (f : Entry → Entry) :
    (s.onSite c fun t => t.updateEntry e.tag f) =
      s.withConn c { s.conns[c] with queue := older ++ f e :: younger } := by
  have hd := hdist.conn c
  rw [Connector.tags, hq] at hd
  rw [← updateFirst_append_cons f (tag_ne_of_nodup hd) (beq_self_eq_true e.tag), ← hq]
  rfl

end

/-- The end of a pulse leaves the engine IDLE and, in ON and DRAINING, MRST_N released (R21, R117). -/
theorem Site.setConn_idle_released (t : Site) :
    (t.setConn { t.conn with engine := .idle }).releaseReset =
      t.setConn { t.conn with engine := .idle, mrst := t.conn.mrst && !t.conn.state.usable } := by
  cases hu : t.conn.state.usable <;> simp [Site.releaseReset, Site.setConn, hu]

/-- Settles O59: each report finds its work in hand. -/
theorem retryAbortAndPulseEnd : Obligations.RetryAbortAndPulseEnd := by
  unfold Obligations.RetryAbortAndPulseEnd
  intro c older younger e lines s hr hdist k
  refine ⟨fun hq hst ht => ?_, fun attempt finishing heng => ?_, fun ms heng hq ho he => ?_⟩
  · change execRetryIntervalExpiry e.tag lines s = _
    rw [execRetryIntervalExpiry, State.whenRunning_running hr, State.onEntry_of_queue hdist hq]
    simp only [if_pos (show e.retryTimer.isSome = true ∧ e.state = .backoff from ⟨ht, hst⟩)]
    rw [State.onSite_startDecision lines (Site.updateEntry_place _ _ _), State.onSite_updateEntry hdist hq]
  · change execAbortEnd c lines s = _
    rw [execAbortEnd, State.whenRunning_running hr]
    refine congrArg Host.Outcome.next
      (Eq.trans (State.onSite_congr ?_)
        (State.onSite_setConn_then s c (fun k => { k with engine := .idle }) fun t => t.startDecision lines))
    simp only [show (s.site c).conn.engine = _ from heng]
  · let idle : Connector := { k with engine := .idle, mrst := k.mrst && !k.state.usable }
    change execPulseTimerExpiry c lines s = _
    rw [execPulseTimerExpiry, State.whenRunning_running hr,
      ← State.onSite_endActive_started (k := idle) hq ho he (hdist.conn c) (fun e => e.acked) .ok [] lines]
    refine congrArg Host.Outcome.next
      (Eq.trans (State.onSite_congr ?_)
        (State.onSite_setConn_then s c (fun k => { k with engine := .idle, mrst := k.mrst && !k.state.usable }) fun t =>
          (t.endActive (fun e => e.acked) .ok []).startDecision lines))
    simp only [show (s.site c).conn.engine = _ from heng, Site.setConn_idle_released]

/-! ### Withdrawals (R91 to R93) -/

/-- The connector after the work of an entry that is ACTIVE is aborted (R91, R115, R116). -/
def Connector.abortedFor (k : Connector) (e : Entry) : Connector :=
  match e.state, k.engine with
  | .active, .transferring a => { k with engine := .aborting a a.finishing }
  | .active, .pulsing _ => { k with engine := .idle, mrst := k.mrst && !k.state.usable }
  | .active, .clearing (.beforeTransfer a _) b => { k with engine := .clearing (.beforeTransfer a true) b }
  | _, _ => k

/-- An abort leaves the queue. -/
theorem Connector.abortedFor_queue (k : Connector) (e : Entry) : (k.abortedFor e).queue = k.queue := by
  unfold Connector.abortedFor
  split <;> rfl

/-- The first step of a withdrawal (R91). -/
theorem Site.abort_of_entry (t : Site) (e : Entry) :
    (if e.state = .active then t.abort else t) = t.setConn (t.conn.abortedFor e) := by
  by_cases he : e.state = .active
  · rw [if_pos he]
    unfold Site.abort Connector.abortedFor
    cases heng : t.conn.engine with
    | transferring a => simp only [he]
    | pulsing ms => simp only [he, Site.setConn_idle_released]
    | clearing purpose b => cases purpose <;> simp only [he] <;> rfl
    | off | idle | aborting | hung => simp only [he]; rfl
  · rw [if_neg he]
    have hsame : t.conn.abortedFor e = t.conn := by
      unfold Connector.abortedFor
      cases hs : e.state with
      | active => exact absurd hs he
      | waiting | backoff => rfl
    rw [hsame]
    rfl

section
variable {s : State} {c : ConnId} {older younger : List Entry} {e : Entry} (hd : s.conns[c].tags.Nodup)
  (hq : s.conns[c].queue = older ++ e :: younger)
include hd hq

/-- An entry is withdrawn, wherever it stands in its queue (R91 to R93, R96). -/
theorem State.onSite_withdraw (status : Status) :
    (s.onSite c fun t => t.withdraw e status) =
      ((s.withConn c { s.conns[c].abortedFor e with queue := older ++ younger }).withOut
        (s.out.afterEnd c e status [])).drained c := by
  have hqueue := (s.conns[c].abortedFor_queue e).trans hq
  have htags : (s.conns[c].abortedFor e).tags.Nodup := by
    rwa [Connector.tags, Connector.abortedFor_queue]
  rw [← State.onSite_endEntry (e := e) hqueue rfl htags status [],
    ← State.onSite_setConn_then s c (fun k => k.abortedFor e) fun t => t.endEntry e status []]
  refine State.onSite_congr ?_
  rw [Site.withdraw, Site.abort_of_entry]

end

/-! ### CANCEL (R68, R93) -/

section
variable {tag target : Byte} {rest : List Message} {lines : BusLines} {s : State}
  (hadm : s.Admits tag) (hq : s.admissionQueue = [0x16, tag, target] :: rest) (ht : target.toNat < 32)
include hadm hq ht

/-- An admitted CANCEL acts on the connector that holds the target, if one does. -/
theorem exec_cancel :
    exec (.cancel lines) s =
      .next
        (match s.tagHolder target with
        | some c => s.taken.onSite c fun t => t.cancel tag target lines
        | none => s.answered 0x16 tag .notFound (.target target)) := by
  change execCancel lines s = _
  rw [execCancel, State.whenRunning_running hadm.1]
  exact congrArg Host.Outcome.next
    ((State.admitPart_of_admits (m := [0x16, tag, target]) (parse := parseByte) hadm hq rfl rfl (decide_eq_true ht)))

end

/-- Settles O56: a withdrawal is the abort of the entry's own work and its end; a CANCEL answers in between. -/
theorem entriesAreWithdrawn : Obligations.EntriesAreWithdrawn := by
  unfold Obligations.EntriesAreWithdrawn
  intro c older younger e tag target lines rest s hr hdist k aborted ended
  have haborted : aborted = k.abortedFor e := rfl
  have hd := hdist.conn c
  have hwithdrawn : k.queue = older ++ e :: younger → ∀ status,
      (s.onSite c fun t => t.withdraw e status) = ended status := fun hq status => State.onSite_withdraw hd hq status
  refine ⟨fun hq hdeadline => ?_, fun hq hm hadm => ?_, fun hm hadm ht hnone => ?_⟩
  · change execDeadlineExpiry e.tag lines s = _
    rw [execDeadlineExpiry, State.whenRunning_running hr, State.onEntry_of_queue hdist hq]
    simp only [if_pos hdeadline]
    rw [State.onSite_startDecision lines (Site.withdraw_place _ _ _), hwithdrawn hq]
  · have hmem : e.tag ∈ s.conns[c].tags := by
      rw [Connector.tags, hq]
      simp
    have hholder : s.tagHolder e.tag = some c := State.tagHolder_of_mem hdist hmem
    have htag : e.tag.toNat < 32 := hdist.2 e.tag ((s.mem_tags e.tag).2 ⟨c, hmem⟩)
    have hentry : (s.site c).conn.entryOf e.tag = some e := Connector.entryOf_of_queue hq hd
    rw [exec_cancel hadm hm htag, hholder]
    refine congrArg Host.Outcome.next ?_
    let respond : Site → Site := fun t => (t.withdraw e .cancelled).respond (cancelResponse tag e.tag .ok)
    have hsite : (s.taken.site c).cancel tag e.tag lines = (respond (s.taken.site c)).startDecision lines := by
      simp only [Site.cancel, show (s.taken.site c).conn.entryOf e.tag = some e from hentry, respond]
    calc
      (s.taken.onSite c fun t => t.cancel tag e.tag lines)
      _ = s.taken.onSite c fun t => (respond t).startDecision lines := State.onSite_congr hsite
      _ = (s.taken.onSite c respond).started c lines :=
        State.onSite_startDecision lines (Site.withdraw_place _ _ _)
      _ = _ := by
        rw [State.taken_onSite_respond s c (fun t => t.withdraw e .cancelled), hwithdrawn hq]
        rfl
  · have hholder : s.tagHolder target = none := (s.tagHolder_eq_none target).2 hnone
    rw [exec_cancel hadm hm ht, hholder]

end Sys2Proof.Machine
end

section
/-! PROOFS. The courses of the bus lines through a transfer attempt and an abort (R104, R107, R108, R115), for O57. -/

namespace Sys2Proof.Machine

/-! ### Running an engine -/

@[simp] theorem Engine.run_nil (e : Engine) : e.run [] = e := rfl

@[simp] theorem Engine.run_cons (e : Engine) (r : BusLines) (readings : List BusLines) :
    e.run (r :: readings) = (e.tick (some r)).run readings := rfl

theorem Engine.run_append (e : Engine) (xs ys : List BusLines) : e.run (xs ++ ys) = (e.run xs).run ys :=
  List.foldl_append

/-! ### The element in progress -/

section
variable {a : Attempt} {e : BusElement} (he : a.element = some e)
include he

theorem Attempt.elementSteps_eq : a.elementSteps = e.steps := by
  rw [Attempt.elementSteps, he]
  rfl

/-- An element has the line steps of its phase. -/
theorem Attempt.element_length : e.steps.length = a.phase.length := by
  rw [← Attempt.elementSteps_eq he]
  refine Attempt.elementSteps_length (fun h => ?_) fun h => ?_
  · rw [Attempt.element, h] at he
    cases he
  · by_contra hn
    rw [Attempt.element, h, List.getElem?_eq_none (Nat.le_of_not_lt hn)] at he
    cases he

/-- The lines of a transfer are those of the line step it has reached. -/
theorem Attempt.drives_eq (hl : a.lineStep < a.phase.length) :
    some (Engine.transferring a).drives = e.steps[a.lineStep]? := by
  have hlt : a.lineStep < e.steps.length := by rwa [Attempt.element_length he]
  rw [Engine.drives, Engine.lineStep, Attempt.elementSteps_eq he, List.getElem?_eq_getElem hlt]
  rfl

/-- With the clock high the line step is taken: a sample, or the next line step. -/
theorem Attempt.tick_of_high {r : BusLines} (hr : r.sclHigh = true) {step : LineStep}
    (hstep : e.steps[a.lineStep]? = some step) :
    a.tick r = if step.samples then a.sample r.sdaHigh else a.advance := by
  rw [Attempt.tick, Attempt.elementSteps_eq he, hstep]
  refine if_neg ?_
  rw [hr]
  exact fun h => Bool.noConfusion h.2

/-- A line step that samples nothing leads to the next of its element. -/
theorem Attempt.tick_of_quiet {r : BusLines} (hr : r.sclHigh = true) (hl : a.lineStep + 1 < a.phase.length)
    (hs : ∀ step, e.steps[a.lineStep]? = some step → step.samples = false) :
    a.tick r = { a with lineStep := a.lineStep + 1 } := by
  have hlen := Attempt.element_length he
  have hlt : a.lineStep < e.steps.length := by omega
  have hstep := List.getElem?_eq_getElem hlt
  rw [Attempt.tick_of_high he hr hstep, hs _ hstep, if_neg Bool.false_ne_true, Attempt.advance,
    Attempt.elementSteps_eq he]
  exact if_pos (by omega)

/-- Only the last line step of a byte sent, and the bits of a byte received, sample the data line (R104). -/
theorem Attempt.samples_eq_false (hl : a.lineStep + 1 < a.phase.length)
    (hp : a.phase = .readBytes → ¬(a.lineStep < 24 ∧ a.lineStep % 3 = 2))
    {step : LineStep} (hstep : e.steps[a.lineStep]? = some step) : step.samples = false := by
  rw [Attempt.element] at he
  cases h : a.phase with
  | busCheck => rw [h] at he; cases he
  | start | repeatedStart | stop =>
    rw [h] at he
    cases he
    exact conditionSteps_samples (by simp) (List.mem_of_getElem? hstep)
  | writeAddress | readAddress =>
    rw [h] at he hl
    cases he
    rw [sentSteps_samples hstep]
    exact decide_eq_false (by rw [TransferPhase.length] at hl; omega)
  | writeBytes =>
    rw [h] at he hl
    obtain ⟨b, -, rfl⟩ := Option.map_eq_some_iff.1 he
    rw [sentSteps_samples hstep]
    exact decide_eq_false (by rw [TransferPhase.length] at hl; omega)
  | readBytes =>
    have hp := hp h
    rw [h] at he
    cases he
    rw [receivedSteps_samples hstep]
    exact decide_eq_false hp

end

/-- The element in progress does not depend on the line step, but for a byte received, which counts from its eighth bit. -/
theorem Attempt.element_with {a : Attempt} {l : Nat} {sampled : List Bool}
    (h : a.phase = .readBytes → (24 ≤ l ↔ 24 ≤ a.lineStep)) :
    ({ a with lineStep := l, sampled } : Attempt).element = a.element := by
  unfold Attempt.element
  cases hp : a.phase with
  | readBytes => simp only [bitSteps, h hp]; rfl
  | busCheck | start | writeAddress | writeBytes | repeatedStart | readAddress | stop => rfl

/-- A bit of a byte received is kept (R104). -/
theorem Attempt.tick_of_bit {a : Attempt} {r : BusLines} (hp : a.phase = .readBytes) (hr : r.sclHigh = true)
    (hl : a.lineStep < 24) (hm : a.lineStep % 3 = 2) : a.tick r = a.sample r.sdaHigh := by
  have he : a.element =
      some (.received (decide (a.total ≤ if bitSteps ≤ a.lineStep then a.completed else a.completed + 1))) := by
    rw [Attempt.element, hp]
  have hlt : a.lineStep < (BusElement.received
      (decide (a.total ≤ if bitSteps ≤ a.lineStep then a.completed else a.completed + 1))).steps.length := by
    rw [Attempt.element_length he, hp, TransferPhase.length]
    omega
  have hstep := List.getElem?_eq_getElem hlt
  rw [Attempt.tick_of_high he hr hstep, receivedSteps_samples hstep, decide_eq_true ⟨hl, hm⟩, if_pos rfl]

/-- Within an element a tick with the clock high leads to the next line step, with the bit read where one is sampled. -/
theorem Attempt.tick_within {a : Attempt} {e : BusElement} {r : BusLines} (he : a.element = some e)
    (hr : r.sclHigh = true) (hl : a.lineStep + 1 < a.phase.length)
    (hs : a.phase = .readBytes → 24 ≤ a.lineStep ∨ (a.sampled.length = a.lineStep / 3 ∧ a.lineStep + 1 < 24)) :
    a.tick r =
      { a with
        lineStep := a.lineStep + 1
        sampled :=
          if a.phase = .readBytes ∧ a.lineStep < 24 ∧ a.lineStep % 3 = 2 then a.sampled ++ [r.sdaHigh]
          else a.sampled } := by
  by_cases hbit : a.phase = .readBytes ∧ a.lineStep < 24 ∧ a.lineStep % 3 = 2
  · obtain ⟨hp, hlt, hm⟩ := hbit
    obtain ⟨hlen, hnext⟩ := (hs hp).resolve_left (by omega)
    rw [Attempt.tick_of_bit hp hr hlt hm, if_pos ⟨hp, hlt, hm⟩, Attempt.sample, hp]
    simp only
    rw [if_neg (by omega), if_neg (by omega)]
  · rw [if_neg hbit]
    exact Attempt.tick_of_quiet he hr hl fun step => Attempt.samples_eq_false he hl fun hp h => hbit ⟨hp, h⟩

/-- From wherever an attempt stands, with the clock high, the lines go through the rest of its element (R104). -/
theorem Attempt.drives_run_within {e : BusElement} {readings : List BusLines} (hhigh : ∀ r ∈ readings, r.sclHigh = true)
    {a : Attempt} (he : a.element = some e) (hl : a.lineStep + readings.length < a.phase.length)
    (hs : a.phase = .readBytes →
      24 ≤ a.lineStep ∨ (a.sampled.length = a.lineStep / 3 ∧ a.lineStep + readings.length < 24)) :
    some ((Engine.transferring a).run readings).drives = e.steps[a.lineStep + readings.length]? := by
  induction readings generalizing a with
  | nil => exact Attempt.drives_eq he hl
  | cons r readings ih =>
    rw [List.length_cons] at hl hs ⊢
    have htick := Attempt.tick_within he (hhigh r List.mem_cons_self) (by omega) fun hp => by
      have := hs hp
      omega
    have hrun : (Engine.transferring a).run (r :: readings) = (Engine.transferring (a.tick r)).run readings := rfl
    rw [hrun, htick, ← Nat.add_assoc, Nat.add_right_comm]
    refine ih (fun x hx => hhigh x (List.mem_cons_of_mem r hx))
      (a := { a with lineStep := a.lineStep + 1, sampled := _ }) ?_ (by simp only; omega) ?_
    · rw [← he]
      exact Attempt.element_with fun hp => by
        have := hs hp
        omega
    · intro hp
      have hs := hs hp
      simp only
      by_cases hm : a.lineStep < 24 ∧ a.lineStep % 3 = 2
      · rw [if_pos ⟨hp, hm⟩, List.length_append, List.length_singleton]
        omega
      · rw [if_neg fun h => hm h.2]
        omega

/-! ### From the end of each element to the next (R107, R108) -/

/-- The last line step of a start, a repeated start, a stop and a byte received samples nothing; that of a byte sent is
its acknowledgement (R104). -/
theorem Attempt.tick_at_end {a : Attempt} {e : BusElement} {r : BusLines} (he : a.element = some e)
    (hr : r.sclHigh = true) (hl : a.lineStep + 1 = a.phase.length) :
    a.tick r =
      match a.phase with
      | .writeAddress | .readAddress | .writeBytes => a.sample r.sdaHigh
      | .start | .repeatedStart | .readBytes => a.moveOn
      | .stop | .busCheck => a := by
  have hlen := Attempt.element_length he
  have hlt : a.lineStep < e.steps.length := by omega
  have hstep := List.getElem?_eq_getElem hlt
  have hadvance : a.phase ≠ .stop → a.advance = a.moveOn := fun hp => by
    rw [Attempt.advance, Attempt.elementSteps_eq he, if_neg (by omega), if_neg hp]
  rw [Attempt.tick_of_high he hr hstep]
  rw [Attempt.element] at he
  cases hp : a.phase with
  | busCheck => rw [hp] at he; cases he
  | writeAddress | readAddress =>
    rw [hp] at he hl
    cases he
    rw [sentSteps_samples hstep, if_pos]
    exact decide_eq_true (by rw [TransferPhase.length] at hl; omega)
  | writeBytes =>
    rw [hp] at he hl
    obtain ⟨b, -, rfl⟩ := Option.map_eq_some_iff.1 he
    rw [sentSteps_samples hstep, if_pos]
    exact decide_eq_true (by rw [TransferPhase.length] at hl; omega)
  | readBytes =>
    rw [hp] at he hl
    cases he
    rw [receivedSteps_samples hstep, if_neg, hadvance (by rw [hp]; decide)]
    simp only [TransferPhase.length] at hl
    simp only [decide_eq_true_eq]
    omega
  | start | repeatedStart =>
    rw [hp] at he
    cases he
    rw [conditionSteps_samples (by simp) (List.mem_of_getElem? hstep), if_neg Bool.false_ne_true,
      hadvance (by rw [hp]; decide)]
  | stop =>
    rw [hp] at he
    cases he
    rw [conditionSteps_samples (by simp) (List.mem_of_getElem? hstep), if_neg Bool.false_ne_true, Attempt.advance,
      Attempt.elementSteps_eq (e := .stop) (by rw [Attempt.element, hp]), if_neg (by omega), if_pos hp]

/-- An attempt in place has its element. -/
theorem Attempt.element_of_inPlace {a : Attempt} (h : (Engine.transferring a).inPlace = true) :
    ∃ e, a.element = some e := by
  obtain ⟨hp, -, hb, -⟩ := (Attempt.inPlace_iff a).1 h
  rw [Attempt.element]
  cases hphase : a.phase with
  | busCheck => exact absurd hphase hb
  | writeBytes =>
    have hlt : a.completed < a.writeBytes.length := by simpa [Attempt.phaseAgrees, hphase] using hp
    exact ⟨_, by rw [List.getElem?_eq_getElem hlt]; rfl⟩
  | start | writeAddress | repeatedStart | readAddress | readBytes | stop => exact ⟨_, rfl⟩

/-- From the end of each element to the next, by the acknowledgement where there is one (R107, R108). -/
theorem Attempt.tick_to_next {a : Attempt} {r : BusLines} (h : (Engine.transferring a).inPlace = true)
    (hr : r.sclHigh = true) (hl : a.lineStep + 1 = a.phase.length) (hw : a.phase = .writeAddress → a.writeBytes ≠ [])
    (hc : a.phase = .readAddress → a.readCount ≠ some 0) :
    a.tick r =
      match a.phase with
      | .start =>
        { a with
          phase := if a.readCount.isSome = true ∧ a.writeBytes = [] then .readAddress else .writeAddress
          lineStep := 0
          sampled := [] }
      | .repeatedStart => { a with phase := .readAddress, lineStep := 0, sampled := [] }
      | .writeAddress =>
        if r.sdaHigh then { a with phase := .stop, lineStep := 0, sampled := [], refused := some .address }
        else { a with phase := .writeBytes, lineStep := 0, sampled := [] }
      | .readAddress =>
        if r.sdaHigh then { a with phase := .stop, lineStep := 0, sampled := [], refused := some .address }
        else { a with phase := .readBytes, lineStep := 0, sampled := [] }
      | .writeBytes =>
        if a.sampled ≠ [] then a
        else if r.sdaHigh then { a with phase := .stop, lineStep := 0, sampled := [], refused := some .data }
        else { a with sampled := [false] }
      | .readBytes =>
        { a with
          phase := if a.completed < a.writeBytes.length + a.readCount.getD 0 then .readBytes else .stop
          lineStep := 0
          sampled := [] }
      | .stop | .busCheck => a := by
  obtain ⟨e, he⟩ := Attempt.element_of_inPlace h
  obtain ⟨hp, -, -, -⟩ := (Attempt.inPlace_iff a).1 h
  rw [Attempt.tick_at_end he hr hl]
  cases hphase : a.phase with
  | start | repeatedStart | readBytes => simp only [Attempt.moveOn, Attempt.nextPhase, hphase] <;> rfl
  | writeAddress =>
    have hfirst : a.completed < a.writeBytes.length := by
      have hzero : a.completed = 0 := by simpa [Attempt.phaseAgrees, hphase] using hp
      rw [hzero]
      exact List.length_pos_iff.2 (hw hphase)
    simp only [Attempt.sample, hphase, Attempt.moveOn, Attempt.nextPhase, if_pos hfirst]
    rfl
  | readAddress =>
    have hleft : a.completed < a.total := by
      obtain ⟨hsome, hwritten⟩ : a.readCount.isSome = true ∧ a.completed = a.writeBytes.length := by
        simpa [Attempt.phaseAgrees, hphase] using hp
      obtain ⟨count, hcount⟩ := Option.isSome_iff_exists.1 hsome
      have hne : count ≠ 0 := fun h0 => hc hphase (h0 ▸ hcount)
      rw [Attempt.total, hcount, hwritten, Option.getD_some]
      omega
    simp only [Attempt.sample, hphase, Attempt.moveOn, Attempt.nextPhase, if_pos hleft]
    rfl
  | writeBytes => simp only [Attempt.sample, hphase]; rfl
  | stop | busCheck => rfl

/-! ### The acknowledgement of a byte of data sent (R107) -/

/-- The acknowledgement of a byte of data is sampled once. -/
theorem Attempt.tick_acknowledged {a : Attempt} {r : BusLines} (hp : a.phase = .writeBytes) (hl : a.lineStep = 26)
    (hc : a.completed < a.writeBytes.length) :
    a.tick r = if a.sampled ≠ [] then a else if r.sdaHigh then a.refuse .data else { a with sampled := [false] } := by
  have he : a.element = some (.sent a.writeBytes[a.completed]) := by
    rw [Attempt.element, hp, List.getElem?_eq_getElem hc]
    rfl
  have hstep : a.elementSteps[a.lineStep]? = some ⟨false, false, false, true⟩ := by
    rw [Attempt.elementSteps_eq he, hl]
    rfl
  rw [Attempt.tick, hstep]
  simp only [Bool.false_eq_true, false_and, if_false, if_true, Attempt.sample, hp]

/-- An acknowledged byte of data stands until its report, a refused one leads to the stop (R107). -/
theorem Attempt.run_acknowledged {a : Attempt} (hp : a.phase = .writeBytes) (hl : a.lineStep = 26)
    (hc : a.completed < a.writeBytes.length) (hs : a.sampled ≠ []) (readings : List BusLines) :
    (Engine.transferring a).run readings = .transferring a := by
  induction readings with
  | nil => rfl
  | cons r readings ih =>
    have htick : (Engine.transferring a).tick (some r) = .transferring a := by
      change Engine.transferring (a.tick r) = _
      rw [Attempt.tick_acknowledged hp hl hc, if_pos hs]
    rw [Engine.run_cons, htick, ih]

/-! ### The course of an abort (R115) -/

/-- The line steps an abort still has to make. -/
def abortCourse (finishing : BusElement) (lineStep : Nat) : List LineStep :=
  finishing.steps.drop lineStep ++ if finishing = .stop then [] else BusElement.stop.steps

/-- With the clock high an abort goes through its element and then through the stop. -/
theorem abortTick_of_high {a : Attempt} {finishing : BusElement} {r : BusLines} (hr : r.sclHigh = true)
    (hl : a.lineStep < finishing.steps.length) :
    abortTick a finishing r =
      if a.lineStep + 1 < finishing.steps.length then .aborting { a with lineStep := a.lineStep + 1 } finishing
      else if finishing = .stop then .aborting a finishing
      else .aborting { a with phase := .stop, lineStep := 0 } .stop := by
  rw [abortTick, List.getElem?_eq_getElem hl]
  refine if_neg fun h => ?_
  rw [hr] at h
  cases h.2

theorem drives_run_aborting {readings : List BusLines} (hhigh : ∀ r ∈ readings, r.sclHigh = true) {a : Attempt}
    {finishing : BusElement} (hl : a.lineStep < finishing.steps.length)
    (hi : readings.length < (abortCourse finishing a.lineStep).length) :
    some ((Engine.aborting a finishing).run readings).drives = (abortCourse finishing a.lineStep)[readings.length]? := by
  induction readings generalizing a finishing with
  | nil =>
    have hfirst : (abortCourse finishing a.lineStep)[0]? = finishing.steps[a.lineStep]? := by
      rw [abortCourse, List.getElem?_append_left (by rw [List.length_drop]; omega), List.getElem?_drop, Nat.add_zero]
    rw [List.length_nil, hfirst, List.getElem?_eq_getElem hl]
    change some ((finishing.steps[a.lineStep]?).getD LineStep.released) = _
    rw [List.getElem?_eq_getElem hl]
    rfl
  | cons r readings ih =>
    have hdrop : finishing.steps.drop a.lineStep = finishing.steps[a.lineStep] :: finishing.steps.drop (a.lineStep + 1) :=
      List.drop_eq_getElem_cons hl
    have hcourse : abortCourse finishing a.lineStep =
        finishing.steps[a.lineStep] :: abortCourse finishing (a.lineStep + 1) := by
      rw [abortCourse, hdrop]
      rfl
    have htick : (Engine.aborting a finishing).tick (some r) = abortTick a finishing r := rfl
    have hrest := fun x hx => hhigh x (List.mem_cons_of_mem r hx)
    rw [hcourse, List.length_cons, List.length_cons] at hi
    rw [Engine.run_cons, htick, abortTick_of_high (hhigh r List.mem_cons_self) hl, hcourse, List.length_cons,
      List.getElem?_cons_succ]
    by_cases hnext : a.lineStep + 1 < finishing.steps.length
    · rw [if_pos hnext]
      exact ih hrest (a := { a with lineStep := a.lineStep + 1 }) hnext (Nat.lt_of_succ_lt_succ hi)
    · have hend : abortCourse finishing (a.lineStep + 1) = if finishing = .stop then [] else BusElement.stop.steps := by
        rw [abortCourse, List.drop_eq_nil_of_le (by omega)]
        rfl
      rw [if_neg hnext, hend]
      rw [hend] at hi
      by_cases hstop : finishing = .stop
      · rw [if_pos hstop] at hi
        simp at hi
      · rw [if_neg hstop] at hi ⊢
        rw [if_neg hstop]
        exact ih hrest (a := { a with phase := .stop, lineStep := 0 }) (finishing := .stop) (show 0 < 3 by decide)
          (by simp only [abortCourse]; simpa using hi)

end Sys2Proof.Machine
end

section
/-! PROOFS. The first elements of an attempt, and the bytes completed (O57). -/

namespace Sys2Proof.Machine

/-! ### Through one element -/

/-- Within an element that samples nothing before its end, the line steps alone go on. -/
theorem Attempt.run_within {readings : List BusLines} (hhigh : ∀ r ∈ readings, r.sclHigh = true) {a : Attempt}
    {e : BusElement} (he : a.element = some e) (hp : a.phase ≠ .readBytes)
    (hl : a.lineStep + readings.length < a.phase.length) :
    (Engine.transferring a).run readings = .transferring { a with lineStep := a.lineStep + readings.length } := by
  induction readings generalizing a with
  | nil => rfl
  | cons r readings ih =>
    rw [List.length_cons] at hl ⊢
    have htick := Attempt.tick_within he (hhigh r List.mem_cons_self) (by omega) fun h => absurd h hp
    rw [if_neg fun h => hp h.1] at htick
    have hrun : (Engine.transferring a).run (r :: readings) = (Engine.transferring (a.tick r)).run readings := rfl
    rw [hrun, htick, ih (fun x hx => hhigh x (List.mem_cons_of_mem r hx)) (a := { a with lineStep := a.lineStep + 1 })
      ((Attempt.element_with (sampled := a.sampled) fun h => absurd h hp).trans he) hp (by simp only; omega)]
    simp only [Nat.add_assoc, Nat.add_comm 1]

/-- An attempt whose stop is made stands. -/
theorem Attempt.run_stopped {readings : List BusLines} (hhigh : ∀ r ∈ readings, r.sclHigh = true) {a : Attempt}
    (hp : a.phase = .stop) (hl : a.lineStep = 2) :
    (Engine.transferring a).run readings = .transferring a := by
  have he : a.element = some .stop := by rw [Attempt.element, hp]
  induction readings with
  | nil => rfl
  | cons r readings ih =>
    have htick : a.tick r = a := by
      rw [Attempt.tick_at_end he (hhigh r List.mem_cons_self) (by rw [hl, hp]; rfl), hp]
    have hrun : (Engine.transferring a).run (r :: readings) = (Engine.transferring (a.tick r)).run readings := rfl
    rw [hrun, htick, ih fun x hx => hhigh x (List.mem_cons_of_mem r hx)]

/-- A stop from its beginning. -/
theorem Attempt.run_stop {readings : List BusLines} (hhigh : ∀ r ∈ readings, r.sclHigh = true) {a : Attempt}
    (hp : a.phase = .stop) (hl : a.lineStep = 0) (hlen : 2 ≤ readings.length) :
    (Engine.transferring a).run readings = .transferring { a with lineStep := 2 } := by
  obtain ⟨r₀, r₁, rest, rfl⟩ : ∃ r₀ r₁ rest, readings = [r₀, r₁] ++ rest := by
    match readings, hlen with
    | r₀ :: r₁ :: rest, _ => exact ⟨r₀, r₁, rest, rfl⟩
  have he : a.element = some .stop := by rw [Attempt.element, hp]
  have hlast : a.lineStep + [r₀, r₁].length = 2 := by rw [hl]; rfl
  rw [Engine.run_append, Attempt.run_within (fun r hr => hhigh r (List.mem_append_left _ hr)) he (by rw [hp]; decide)
    (by rw [hlast, hp]; decide), hlast]
  exact Attempt.run_stopped (fun r hr => hhigh r (List.mem_append_right _ hr)) (a := { a with lineStep := 2 }) hp rfl

/-! ### The bits of a byte received (R104) -/

/-- The bits read in the first line steps of a byte received. -/
def bitsRead (readings : List BusLines) (count : Nat) : List Bool :=
  (List.range count).map fun bit => readings[2 + 3 * bit]?.any fun r => r.sdaHigh

theorem bitsRead_length (readings : List BusLines) (count : Nat) : (bitsRead readings count).length = count := by
  rw [bitsRead, List.length_map, List.length_range]

/-- One clock period brings one bit. -/
theorem bitsRead_succ {readings : List BusLines} {n : Nat} (hm : n % 3 = 2) (hlt : n < readings.length) :
    bitsRead readings (n / 3 + 1) = bitsRead readings (n / 3) ++ [(readings[n]).sdaHigh] := by
  have hbit : 2 + 3 * (n / 3) = n := by omega
  simp only [bitsRead, List.range_succ, List.map_append, List.map_singleton, hbit, List.getElem?_eq_getElem hlt,
    Option.any_some]

/-- The eighth bit of a byte received stands until its report. -/
theorem Attempt.run_received {readings : List BusLines} (hhigh : ∀ r ∈ readings, r.sclHigh = true) {a : Attempt}
    (hp : a.phase = .readBytes) (hl : a.lineStep = 23) (hs : a.sampled.length = 8) :
    (Engine.transferring a).run readings = .transferring a := by
  induction readings with
  | nil => rfl
  | cons r readings ih =>
    have htick : a.tick r = a := by
      rw [Attempt.tick_of_bit hp (hhigh r List.mem_cons_self) (by omega) (by omega), Attempt.sample, hp]
      exact if_pos (by omega)
    have hrun : (Engine.transferring a).run (r :: readings) = (Engine.transferring (a.tick r)).run readings := rfl
    rw [hrun, htick, ih fun x hx => hhigh x (List.mem_cons_of_mem r hx)]

section
variable {a : Attempt} {readings : List BusLines} (hp : a.phase = .readBytes) (hl : a.lineStep = 0)
  (hs : a.sampled = []) (hhigh : ∀ r ∈ readings, r.sclHigh = true)
include hp hl hs hhigh

/-- The line steps of a byte received keep a bit for each clock period passed. -/
theorem Attempt.run_bits {n : Nat} (hn : n < 24) (hlen : n ≤ readings.length) :
    (Engine.transferring a).run (readings.take n) =
      .transferring { a with lineStep := n, sampled := bitsRead readings (n / 3) } := by
  induction n with
  | zero =>
    rw [List.take_zero, Engine.run_nil]
    refine congrArg Engine.transferring ?_
    obtain ⟨_, _, _, _, _, _, _, _, _, _⟩ := a
    cases hl
    cases hs
    rfl
  | succ n ih =>
    have hlt : n < readings.length := by omega
    have hr : (readings[n]).sclHigh = true := hhigh _ (List.getElem_mem hlt)
    have hlength : a.phase.length = 27 := by rw [hp]; rfl
    rw [List.take_succ_eq_append_getElem hlt, Engine.run_append, ih (by omega) (by omega)]
    change Engine.transferring (Attempt.tick _ readings[n]) = _
    rw [Attempt.tick_within (e := .received (decide (a.total ≤ if bitSteps ≤ n then a.completed else a.completed + 1)))
      (by rw [Attempt.element]; simp only [hp]; rfl) hr (by simp only [hlength]; omega)
      fun _ => .inr ⟨bitsRead_length _ _, by simp only; omega⟩]
    congr 1
    simp only [hp, true_and]
    by_cases hm : n % 3 = 2
    · have hdiv : (n + 1) / 3 = n / 3 + 1 := by omega
      rw [if_pos ⟨by omega, hm⟩, hdiv, bitsRead_succ hm hlt]
    · have hdiv : (n + 1) / 3 = n / 3 := by omega
      rw [if_neg fun h => hm h.2, hdiv]

/-- A byte received is read whole, and stands until its report. -/
theorem Attempt.run_byte (hlen : 24 ≤ readings.length) :
    (Engine.transferring a).run readings = .transferring { a with lineStep := 23, sampled := bitsRead readings 8 } := by
  have hlt : 23 < readings.length := by omega
  have hsplit : readings = readings.take 23 ++ readings[23] :: readings.drop 24 := by
    rw [← List.drop_eq_getElem_cons hlt, List.take_append_drop]
  have heighth : (Attempt.tick { a with lineStep := 23, sampled := bitsRead readings 7 } readings[23]) =
      { a with lineStep := 23, sampled := bitsRead readings 8 } := by
    rw [Attempt.tick_of_bit (a := { a with lineStep := 23, sampled := bitsRead readings 7 }) hp
      (hhigh _ (List.getElem_mem hlt)) (by simp only; omega) (show 23 % 3 = 2 from rfl), Attempt.sample]
    simp only [hp, bitsRead_length]
    rw [if_neg (by decide), if_pos trivial, ← bitsRead_succ (n := 23) rfl hlt]
  calc
    (Engine.transferring a).run readings
    _ = (Engine.transferring a).run (readings.take 23 ++ readings[23] :: readings.drop 24) := by rw [← hsplit]
    _ = (Engine.transferring (Attempt.tick { a with lineStep := 23, sampled := bitsRead readings 7 } readings[23])).run
          (readings.drop 24) := by
      rw [Engine.run_append, Attempt.run_bits hp hl hs hhigh (by decide) (by omega)]
      rfl
    _ = _ := by
      rw [heighth]
      exact Attempt.run_received (fun r hr => hhigh r (List.mem_of_mem_drop hr)) hp rfl (bitsRead_length _ _)

end

/-! ### The start and the address byte (R107, R108) -/

/-- The transfer reads at once: nothing is written before (R108). -/
def Attempt.directRead (a : Attempt) : Bool := decide (a.readCount.isSome = true ∧ a.writeBytes = [])

/-- The attempt at its first address byte. -/
def Attempt.addressing (a : Attempt) : Attempt :=
  { a with phase := if a.directRead then .readAddress else .writeAddress, lineStep := 0, sampled := [] }

theorem Attempt.addressing_element (a : Attempt) :
    a.addressing.element = some (.address (addressByte a.address a.directRead)) := by
  unfold Attempt.element Attempt.addressing
  cases a.directRead <;> rfl

theorem Attempt.addressing_length (a : Attempt) : a.addressing.phase.length = 27 := by
  unfold Attempt.addressing
  cases a.directRead <;> rfl

theorem Attempt.addressing_ne_readBytes (a : Attempt) : a.addressing.phase ≠ .readBytes := by
  unfold Attempt.addressing
  cases a.directRead <;> exact TransferPhase.noConfusion

/-- The line steps of a start and of the address byte behind it. -/
def Attempt.leadSteps (a : Attempt) : List LineStep :=
  BusElement.start.steps ++ (BusElement.address (addressByte a.address a.directRead)).steps

theorem Attempt.leadSteps_length (a : Attempt) : a.leadSteps.length = 29 := rfl

section
variable {a : Attempt} {readings : List BusLines} (hp : a.phase = .start) (hl : a.lineStep = 0)
  (hhigh : ∀ r ∈ readings, r.sclHigh = true)
include hp hl hhigh

/-- Past the start the attempt is at its address byte. -/
theorem Attempt.run_start (hlen : 2 ≤ readings.length) :
    (Engine.transferring a).run readings = (Engine.transferring a.addressing).run (readings.drop 2) := by
  obtain ⟨r₀, r₁, rest, rfl⟩ : ∃ r₀ r₁ rest, readings = r₀ :: r₁ :: rest := by
    match readings, hlen with
    | r₀ :: r₁ :: rest, _ => exact ⟨r₀, r₁, rest, rfl⟩
  have he : ∀ {b : Attempt}, b.phase = .start → b.element = some .start := fun h => by rw [Attempt.element, h]
  have hfirst : a.tick r₀ = { a with lineStep := 1 } := by
    rw [Attempt.tick_within (he hp) (hhigh r₀ (by simp)) (by rw [hl, hp]; decide) (by rw [hp]; exact nofun), hl,
      if_neg (by rw [hp]; exact nofun)]
  have hsecond : Attempt.tick { a with lineStep := 1 } r₁ = a.addressing := by
    rw [Attempt.tick_at_end (a := { a with lineStep := 1 }) (he hp) (hhigh r₁ (by simp)) (by simp only [hp]; rfl)]
    simp only [hp, Attempt.moveOn, Attempt.nextPhase, Attempt.addressing, Attempt.directRead, decide_eq_true_eq]
  change (Engine.transferring ((a.tick r₀).tick r₁)).run rest = _
  rw [hfirst, hsecond]
  rfl

/-- Past the address byte the attempt goes by its acknowledgement. -/
theorem Attempt.run_lead {r : BusLines} (hr : readings[28]? = some r) :
    (Engine.transferring a).run readings =
      (Engine.transferring (a.addressing.sample r.sdaHigh)).run (readings.drop 29) := by
  obtain ⟨hlt, rfl⟩ := List.getElem?_eq_some_iff.1 hr
  have hdrop := fun x hx => hhigh x (List.mem_of_mem_drop (i := 2) hx)
  have hlen : (readings.drop 2).length = readings.length - 2 := List.length_drop
  have hsplit : readings.drop 2 = (readings.drop 2).take 26 ++ readings[28] :: readings.drop 29 := by
    have h26 : 26 < (readings.drop 2).length := by omega
    rw [show readings[28] = (readings.drop 2)[26] by rw [List.getElem_drop],
      show readings.drop 29 = (readings.drop 2).drop 27 by rw [List.drop_drop], ← List.drop_eq_getElem_cons h26,
      List.take_append_drop]
  have htake : ((readings.drop 2).take 26).length = 26 := by rw [List.length_take]; omega
  rw [Attempt.run_start hp hl hhigh (by omega), hsplit, Engine.run_append,
    Attempt.run_within (fun x hx => hdrop x (List.mem_of_mem_take hx)) a.addressing_element a.addressing_ne_readBytes
      (by rw [htake, a.addressing_length]; change 0 + 26 < 27; decide), htake]
  have htick : Attempt.tick { a.addressing with lineStep := 26 } readings[28] =
      a.addressing.sample readings[28].sdaHigh := by
    rw [Attempt.tick_at_end (a := { a.addressing with lineStep := 26 }) (e := .address (addressByte a.address a.directRead))
      ((Attempt.element_with (sampled := a.addressing.sampled) fun h => absurd h a.addressing_ne_readBytes).trans
        a.addressing_element) (hhigh _ (List.getElem_mem hlt)) a.addressing_length.symm]
    unfold Attempt.addressing
    cases a.directRead <;> rfl
  change (Engine.transferring (Attempt.tick { a.addressing with lineStep := 26 } readings[28])).run _ = _
  rw [htick]

/-- The lines through the start and the address byte. -/
theorem Attempt.drives_lead (hlen : readings.length < 29) :
    some ((Engine.transferring a).run readings).drives = a.leadSteps[readings.length]? := by
  by_cases h2 : 2 ≤ readings.length
  · have hlen2 : (readings.drop 2).length = readings.length - 2 := List.length_drop
    rw [Attempt.run_start hp hl hhigh h2, Attempt.drives_run_within
      (fun x hx => hhigh x (List.mem_of_mem_drop (i := 2) hx)) a.addressing_element
      (by rw [a.addressing_length, hlen2]; change 0 + _ < _; omega)
      (fun h => absurd h a.addressing_ne_readBytes), Attempt.leadSteps, List.getElem?_append_right h2, hlen2]
    exact congrArg (fun i => (BusElement.address (addressByte a.address a.directRead)).steps[i]?) (Nat.zero_add _)
  · have he : a.element = some .start := by rw [Attempt.element, hp]
    rw [Attempt.drives_run_within hhigh he (by rw [hl, hp]; change 0 + _ < 2; omega) (by rw [hp]; exact nofun), hl,
      Nat.zero_add, Attempt.leadSteps, List.getElem?_append_left (by change _ < 2; omega)]

end

end Sys2Proof.Machine
end

section
/-! PROOFS. Completed bytes and the course of the lines (O57). -/

namespace Sys2Proof.Machine

/-! ### From the address byte on (R107, R108) -/

section
variable {a : Attempt}

/-- Acknowledged, with bytes to be written. -/
theorem Attempt.addressing_sample_of_write (hc : a.completed = 0) (hw : a.writeBytes ≠ []) :
    a.addressing.sample false = { a with phase := .writeBytes, lineStep := 0, sampled := [] } := by
  have hdirect : a.directRead = false := decide_eq_false fun h => hw h.2
  have hfirst : a.completed < a.writeBytes.length := by
    rw [hc]
    exact List.length_pos_iff.2 hw
  simp only [Attempt.addressing, hdirect, Attempt.sample, Attempt.moveOn, Attempt.nextPhase, Bool.false_eq_true, if_false,
    if_pos hfirst]

/-- Acknowledged, with bytes to be read at once. -/
theorem Attempt.addressing_sample_of_read {count : Nat} (hc : a.completed = 0) (hdirect : a.directRead = true)
    (hcount : a.readCount = some count) (hpos : 1 ≤ count) :
    a.addressing.sample false = { a with phase := .readBytes, lineStep := 0, sampled := [] } := by
  have hleft : a.completed < a.total := by
    rw [Attempt.total, hcount, hc, Option.getD_some]
    omega
  have htotal : a.addressing.total = a.total := rfl
  simp only [Attempt.addressing, hdirect, Attempt.sample, Attempt.moveOn, Attempt.nextPhase, Bool.false_eq_true, if_false,
    if_true]
  rw [if_pos (by exact hleft)]

/-- Not acknowledged. -/
theorem Attempt.addressing_sample_refused :
    a.addressing.sample true = { a with phase := .stop, lineStep := 0, sampled := [], refused := some .address } := by
  unfold Attempt.addressing
  cases a.directRead <;> rfl

end

section
variable {a : Attempt} {readings : List BusLines} (hp : a.phase = .start) (hl : a.lineStep = 0)
  (hhigh : ∀ r ∈ readings, r.sclHigh = true)
include hp hl hhigh

/-- The lines through the start, the address byte and the element behind it. -/
theorem Attempt.drives_through {next : List LineStep}
    (hnext : ∀ r, readings[28]? = some r → readings.length < 29 + next.length →
      some ((Engine.transferring (a.addressing.sample r.sdaHigh)).run (readings.drop 29)).drives =
        next[(readings.drop 29).length]?)
    (hlen : readings.length < (a.leadSteps ++ next).length) :
    some ((Engine.transferring a).run readings).drives = (a.leadSteps ++ next)[readings.length]? := by
  rw [List.length_append, a.leadSteps_length] at hlen
  by_cases h29 : readings.length < 29
  · rw [Attempt.drives_lead hp hl hhigh h29, List.getElem?_append_left (by rwa [a.leadSteps_length])]
  · have hr : readings[28]? = some readings[28] := List.getElem?_eq_getElem (by omega)
    rw [Attempt.run_lead hp hl hhigh hr, hnext _ hr hlen, List.getElem?_append_right (by rw [a.leadSteps_length]; omega),
      a.leadSteps_length, List.length_drop]

end

/-- From a start with nothing completed, the lines by what they read. -/
theorem Attempt.first_elements {a : Attempt} {readings : List BusLines} (hp : a.phase = .start) (hl : a.lineStep = 0)
    (hc : a.completed = 0) (hhigh : ∀ r ∈ readings, r.sclHigh = true) :
    let after := (Engine.transferring a).run readings
    let acknowledged := ∀ r, readings[28]? = some r → r.sdaHigh = false
    let refused := a.leadSteps ++ BusElement.stop.steps
    (∀ b rest, a.writeBytes = b :: rest → acknowledged →
      readings.length < (a.leadSteps ++ (BusElement.sent b).steps).length →
      some after.drives = (a.leadSteps ++ (BusElement.sent b).steps)[readings.length]?) ∧
    (∀ count, a.directRead = true → a.readCount = some count → 1 ≤ count → acknowledged →
      (readings.length < 53 →
        some after.drives = (a.leadSteps ++ (BusElement.received (decide (count = 1))).steps)[readings.length]?) ∧
      (53 ≤ readings.length →
        after = .transferring { a with phase := .readBytes, lineStep := 23, sampled := bitsRead (readings.drop 29) 8 })) ∧
    (¬acknowledged →
      (readings.length < refused.length → some after.drives = refused[readings.length]?) ∧
      (31 ≤ readings.length →
        after = .transferring { a with phase := .stop, lineStep := 2, sampled := [], refused := some .address })) := by
  intro after acknowledged refused
  have hdrop := fun x hx => hhigh x (List.mem_of_mem_drop (i := 29) hx)
  have hlen : (readings.drop 29).length = readings.length - 29 := List.length_drop
  refine ⟨fun b rest hw hack hi => ?_, fun count hdirect hcount hpos hack => ⟨fun hi => ?_, fun hi => ?_⟩, fun hack => ?_⟩
  · refine Attempt.drives_through hp hl hhigh (fun r hr hlt => ?_) hi
    have hwrite : a.writeBytes ≠ [] := by rw [hw]; exact List.cons_ne_nil b rest
    rw [hack r hr, Attempt.addressing_sample_of_write hc hwrite]
    have he : ({ a with phase := .writeBytes, lineStep := 0, sampled := [] } : Attempt).element = some (.sent b) := by
      simp only [Attempt.element, hc, hw]
      rfl
    rw [Attempt.drives_run_within hdrop he]
    · exact congrArg (fun i => (BusElement.sent b).steps[i]?) (Nat.zero_add _)
    · rw [hlen]
      change 0 + _ < 27
      have : (BusElement.sent b).steps.length = 27 := rfl
      omega
    · exact nofun
  · have hnext : (BusElement.received (decide (count = 1))).steps.length = 27 := by cases decide (count = 1) <;> rfl
    refine Attempt.drives_through hp hl hhigh (fun r hr hlt => ?_) (by rw [List.length_append, a.leadSteps_length]; omega)
    have he : ({ a with phase := .readBytes, lineStep := 0, sampled := [] } : Attempt).element =
        some (.received (decide (count = 1))) := by
      have hlast : a.total ≤ a.completed + 1 ↔ count = 1 := by
        have hwritten : a.writeBytes = [] := (of_decide_eq_true hdirect).2
        rw [Attempt.total, hwritten, hcount, hc, Option.getD_some, List.length_nil]
        omega
      exact congrArg (fun last => some (BusElement.received last)) (decide_eq_decide.2 hlast)
    rw [hack r hr, Attempt.addressing_sample_of_read hc hdirect hcount hpos, Attempt.drives_run_within hdrop he]
    · exact congrArg (fun i => (BusElement.received (decide (count = 1))).steps[i]?) (Nat.zero_add _)
    · rw [hlen]
      change 0 + _ < 27
      omega
    · rw [hlen]
      exact fun _ => .inr ⟨show ([] : List Bool).length = 0 / 3 from rfl, by change 0 + _ < 24; omega⟩
  · have hr : readings[28]? = some readings[28] := List.getElem?_eq_getElem (by omega)
    have hrun := Attempt.run_lead hp hl hhigh hr
    rw [hack _ hr, Attempt.addressing_sample_of_read hc hdirect hcount hpos] at hrun
    refine hrun.trans ?_
    exact Attempt.run_byte (a := { a with phase := .readBytes, lineStep := 0, sampled := [] }) rfl rfl rfl hdrop
      (by omega)
  · obtain ⟨r, hr, hhighdata⟩ : ∃ r, readings[28]? = some r ∧ r.sdaHigh = true := by
      simpa [acknowledged] using hack
    have hstop : ∀ r', readings[28]? = some r' → a.addressing.sample r'.sdaHigh =
        { a with phase := .stop, lineStep := 0, sampled := [], refused := some .address } := by
      intro r' hr'
      rw [hr] at hr'
      obtain rfl := Option.some.inj hr'
      rw [hhighdata, Attempt.addressing_sample_refused]
    constructor
    · refine fun hi => Attempt.drives_through hp hl hhigh (fun r' hr' hlt => ?_) hi
      rw [hstop r' hr', Attempt.drives_run_within hdrop (e := .stop) rfl]
      · exact congrArg (fun i => BusElement.stop.steps[i]?) (Nat.zero_add _)
      · rw [hlen]
        change 0 + _ < 3
        have : BusElement.stop.steps.length = 3 := rfl
        omega
      · exact nofun
    · intro hi
      refine (Attempt.run_lead hp hl hhigh hr).trans ?_
      rw [hstop r hr]
      exact Attempt.run_stop hdrop (a := { a with phase := .stop, lineStep := 0, sampled := [], refused := some .address })
        rfl rfl (by omega)

/-! ### Completed bytes (R109) -/

/-- The readings of a byte's bits give the byte, and no other readings do (R104). -/
theorem bitsOf_byteOfReadings {bits : List Bool} (h : bits.length = 8) : bitsOf (byteOfReadings bits) = bits := by
  have hall : ∀ b₀ b₁ b₂ b₃ b₄ b₅ b₆ b₇ : Bool,
      bitsOf (byteOfReadings [b₀, b₁, b₂, b₃, b₄, b₅, b₆, b₇]) = [b₀, b₁, b₂, b₃, b₄, b₅, b₆, b₇] := by decide
  match bits, h with
  | [b₀, b₁, b₂, b₃, b₄, b₅, b₆, b₇], _ => exact hall b₀ b₁ b₂ b₃ b₄ b₅ b₆ b₇

/-- A byte is the one of its bits. -/
theorem bitsOf_inj {v w : Byte} (h : bitsOf v = bitsOf w) : v = w := by
  refine BitVec.eq_of_getMsbD_eq fun i hi => ?_
  have hget : ∀ u : Byte, (bitsOf u)[i]? = some (u.getMsbD i) := by
    intro u
    match i, hi with
    | 0, _ | 1, _ | 2, _ | 3, _ | 4, _ | 5, _ | 6, _ | 7, _ => rfl
  exact Option.some.inj ((hget v).symm.trans ((congrArg (·[i]?) h).trans (hget w)))

/-- The readings taken so far can lead to the value exactly where they are its first bits. -/
theorem Attempt.reads_iff {a : Attempt} {value : Byte} (h : a.sampled.length ≤ 8) :
    a.reads value = true ↔ a.sampled <+: bitsOf value := by
  have hlen : (a.sampled ++ (bitsOf value).drop a.sampled.length).length = 8 := by
    rw [List.length_append, List.length_drop]
    change _ + (8 - _) = 8
    omega
  rw [Attempt.reads, beq_iff_eq]
  constructor
  · intro hv
    have hbits := bitsOf_byteOfReadings hlen
    rw [hv] at hbits
    exact ⟨_, hbits.symm⟩
  · rintro ⟨rest, hrest⟩
    have hdrop : (bitsOf value).drop a.sampled.length = rest := by rw [← hrest, List.drop_left]
    refine bitsOf_inj ?_
    rw [bitsOf_byteOfReadings hlen, hdrop, hrest]

/-- The report of a byte, where it can come and where not (R107 to R109). -/
theorem Attempt.complete_eq {a : Attempt} {value : Byte} (h : a.sampled.length ≤ 8) :
    a.complete value =
      if a.refused = none ∧ a.completed < a.writeBytes.length + a.readCount.getD 0 ∧
          (a.writeBytes.length ≤ a.completed → a.sampled <+: bitsOf value) then
        some
          (if a.completed < a.writeBytes.length then
            { a with
              completed := a.completed + 1, lineStep := 0, sampled := [],
              phase :=
                if a.completed + 1 < a.writeBytes.length then .writeBytes
                else if a.readCount = none then .stop
                else .repeatedStart }
          else
            { a with
              completed := a.completed + 1, lineStep := 24, sampled := [], phase := .readBytes,
              received := a.received ++ [value] })
      else none := by
  by_cases hr : a.refused = none
  · by_cases hw : a.completed < a.writeBytes.length
    · obtain ⟨b, hb⟩ := Attempt.nextData_of_lt hw
      refine Eq.trans ?_ (if_pos ⟨hr, by omega, fun hge => absurd hw (Nat.not_lt.2 hge)⟩).symm
      rw [if_pos hw]
      simp only [Attempt.complete, hr, hb, Attempt.moveOn, Attempt.nextPhase]
      cases a.readCount <;> rfl
    · by_cases ht : a.completed < a.total
      · obtain ⟨last, hlast⟩ := Attempt.nextData_of_read (Nat.le_of_not_lt hw) ht
        simp only [Attempt.complete, hr, hlast, Attempt.reads_iff h]
        by_cases hbits : a.sampled <+: bitsOf value
        · refine (if_pos hbits).trans (Eq.trans ?_ (if_pos ⟨trivial, ht, fun _ => hbits⟩).symm)
          rw [if_neg hw]
          rfl
        · exact (if_neg hbits).trans (if_neg fun hn => hbits (hn.2.2 (Nat.le_of_not_lt hw))).symm
      · refine Eq.trans ?_ (if_neg fun hn => ht hn.2.1).symm
        simp only [Attempt.complete, hr, Attempt.nextData_of_total (Nat.le_of_not_lt ht)]
  · refine Eq.trans ?_ (if_neg fun hn => hr hn.1).symm
    obtain ⟨byte, hbyte⟩ := Option.ne_none_iff_exists'.1 hr
    simp only [Attempt.complete, hbyte]

/-- A completed byte, on the whole part (R78, R109). -/
theorem exec_byteCompleted {s : State} {c : ConnId} {a : Attempt} {older younger : List Entry} {e : Entry}
    (hr : s.resetting = none) (heng : s.conns[c].engine = .transferring a)
    (hq : s.conns[c].queue = older ++ e :: younger) (ho : ∀ x ∈ older, x.state ≠ .active) (he : e.state = .active)
    (value : Byte) :
    exec (.byteCompleted c value) s =
      .next
        (match a.complete value with
        | some a' =>
          s.withConn c
            { s.conns[c] with
              engine := .transferring a', queue := older ++ { e with acked := a'.completed } :: younger }
        | none => s) := by
  change execByteCompleted c value s = _
  rw [execByteCompleted, State.whenRunning_running hr]
  refine congrArg Host.Outcome.next ?_
  cases hc : a.complete value with
  | none =>
    refine State.onSite_self ?_
    simp only [show (s.site c).conn.engine = _ from heng, hc]
  | some a' =>
    have hset := State.onSite_setConn_then s c (fun k => { k with engine := .transferring a' }) fun t =>
      t.updateActive fun e => { e with acked := a'.completed }
    refine Eq.trans (State.onSite_congr ?_) (hset.trans
      (State.onSite_updateActive (k := { s.conns[c] with engine := .transferring a' }) hq ho he _))
    simp only [show (s.site c).conn.engine = _ from heng, hc]

/-- Settles O57: a byte's report by what the attempt has read, and the lines by the elements they go through. -/
theorem completedBytesAreCounted : Obligations.CompletedBytesAreCounted := by
  unfold Obligations.CompletedBytesAreCounted
  refine ⟨?_, ?_, ?_, ?_, ?_, ?_⟩
  · intro c value a older younger e s hr k n bits occurs heng hq ho he hs
    have hcomplete := Attempt.complete_eq (value := value) hs
    have hexec := exec_byteCompleted hr heng hq ho he value
    refine ⟨fun hn => ?_, fun hy => ?_⟩
    · rw [hexec, hcomplete.trans (if_neg hn)]
    · rw [hexec, hcomplete.trans (if_pos hy)]
      simp only
      split <;> rfl
  · intro a readings hp hl hc hs hhigh i direct lead after acknowledged refused
    obtain ⟨hwrite, hread, hstop⟩ := Attempt.first_elements hp hl hc hhigh
    refine ⟨hwrite, fun count hd hcount hpos hack => ?_, hstop⟩
    obtain ⟨hlines, hbyte⟩ := hread count hd hcount hpos hack
    refine ⟨hlines, fun hi => (hbyte hi).trans ?_⟩
    have hbits : bitsRead (readings.drop 29) 8 =
        (List.range 8).map fun bit => readings[31 + 3 * bit]?.any fun r => r.sdaHigh := by
      refine List.map_congr_left fun bit _ => ?_
      rw [List.getElem?_drop, ← Nat.add_assoc]
    rw [hbits]
  · intro a r rest hp hl hc hs
    refine ⟨fun hlow => ?_, fun hhigh => ?_⟩
    · have htick : a.tick r = { a with sampled := [false] } := by
        rw [Attempt.tick_acknowledged hp hl hc, if_neg (not_not.2 hs), hlow]
        rfl
      change (Engine.transferring (a.tick r)).run rest = _
      rw [htick]
      exact Attempt.run_acknowledged (a := { a with sampled := [false] }) hp hl hc (List.cons_ne_nil _ _) rest
    · change Engine.transferring (a.tick r) = _
      rw [Attempt.tick_acknowledged hp hl hc, if_neg (not_not.2 hs), hhigh]
      rfl
  · intro a e readings he hhigh i hi hs
    exact Attempt.drives_run_within hhigh he hi hs
  · intro a r hin hr hl hw hc next
    exact congrArg Engine.transferring (Attempt.tick_to_next hin hr hl hw hc)
  · intro a e readings he hl hhigh finishing course i hi
    have hfinishing : a.finishing = finishing := by
      rw [Attempt.finishing, he]
      cases e <;> rfl
    have hlength : finishing.steps.length = a.phase.length := by
      rw [← Attempt.element_length he]
      cases e with
      | received last =>
        have h27 : ∀ b : Bool, (BusElement.received b).steps.length = 27 := by decide
        exact (h27 (last || decide (a.lineStep ≤ 24))).trans (h27 last).symm
      | start | repeatedStart | address | sent | stop => rfl
    have hstop : (finishing = .stop) = (e = .stop) := by
      cases e <;> simp [finishing]
    have hcourse : course = abortCourse finishing a.lineStep := by
      simp only [course, abortCourse, hstop]
    rw [hfinishing, hcourse]
    exact drives_run_aborting hhigh (by omega) (by rwa [← hcourse])

end Sys2Proof.Machine
end

section
/-! PROOFS. Where the wait for the clock can come (R105), for the stretch limit (O60). -/

namespace Sys2Proof.Machine

/-- A wait for the clock can come before the engine's next report (R105). -/
def Engine.ReachesWait (e : Engine) : Prop := ∃ readings, (e.run readings).drives.waits = true

/-- The stretch timer runs exactly while the clock just released is waited for (R105). -/
theorem Engine.stretchTimer_ne_none (e : Engine) : e.stretchTimer ≠ none ↔ e.drives.waits = true := by
  rw [Engine.stretchTimer]
  cases e.drives.waits <;> simp

theorem Engine.ReachesWait.of_run {e : Engine} (readings : List BusLines) (h : (e.run readings).ReachesWait) :
    e.ReachesWait := by
  obtain ⟨rest, hrest⟩ := h
  exact ⟨readings ++ rest, by rw [Engine.run_append]; exact hrest⟩

/-- An engine that stands in a set of states without a wait reaches none. -/
theorem Engine.not_reachesWait {p : Engine → Prop} (hstands : ∀ e r, p e → p (e.tick (some r)))
    (hquiet : ∀ e, p e → e.drives.waits = false) {e : Engine} (h : p e) : ¬e.ReachesWait := by
  rintro ⟨readings, hwaits⟩
  induction readings generalizing e with
  | nil =>
    rw [Engine.run_nil, hquiet e h] at hwaits
    cases hwaits
  | cons r readings ih => exact ih (hstands e r h) hwaits

/-- Both lines read high. -/
def highs (n : Nat) : List BusLines := List.replicate n ⟨true, true⟩

theorem highs_high {n : Nat} : ∀ r ∈ highs n, r.sclHigh = true := by
  intro r hr
  rw [List.eq_of_mem_replicate hr]

@[simp] theorem highs_length (n : Nat) : (highs n).length = n := List.length_replicate

/-! ### In a transfer -/

section
variable {a : Attempt} {e : BusElement}

/-- A wait further on in the element in progress. -/
theorem Attempt.reachesWait_within (he : a.element = some e) {i : Nat} (hi : a.lineStep ≤ i) {step : LineStep}
    (hstep : e.steps[i]? = some step) (hwaits : step.waits = true)
    (hs : a.phase = .readBytes → 24 ≤ a.lineStep ∨ (a.sampled.length = a.lineStep / 3 ∧ i < 24)) :
    (Engine.transferring a).ReachesWait := by
  obtain ⟨hlt, -⟩ := List.getElem?_eq_some_iff.1 hstep
  rw [Attempt.element_length he] at hlt
  have hsum : a.lineStep + (highs (i - a.lineStep)).length = i := by rw [highs_length]; omega
  have hdrives := Attempt.drives_run_within (readings := highs (i - a.lineStep)) highs_high he (by omega) (by rwa [hsum])
  rw [hsum, hstep] at hdrives
  exact ⟨_, by rw [Option.some.inj hdrives, hwaits]⟩

/-- From the beginning of an element other than a start. -/
theorem Attempt.reachesWait_of_fresh (he : a.element = some e) (hp : a.phase ≠ .start) (hl : a.lineStep = 0)
    (hs : a.sampled = []) : (Engine.transferring a).ReachesWait := by
  have hsecond : ∃ step, e.steps[1]? = some step ∧ step.waits = true := by
    rw [Attempt.element] at he
    cases h : a.phase with
    | start => exact absurd h hp
    | busCheck => rw [h] at he; cases he
    | writeBytes =>
      rw [h] at he
      obtain ⟨b, -, rfl⟩ := Option.map_eq_some_iff.1 he
      exact ⟨_, rfl, rfl⟩
    | writeAddress | repeatedStart | readAddress | readBytes | stop =>
      rw [h] at he
      cases he
      exact ⟨_, rfl, rfl⟩
  obtain ⟨step, hstep, hwaits⟩ := hsecond
  exact Attempt.reachesWait_within he (by omega) hstep hwaits fun _ => .inr ⟨by rw [hs, hl]; rfl, by decide⟩

/-- From the end of an element, past which there is another. -/
theorem Attempt.reachesWait_of_end (he : a.element = some e) (hl : a.lineStep + 1 = a.phase.length)
    (hp : a.phase ≠ .stop) (hs : a.phase = .writeBytes → a.sampled = []) : (Engine.transferring a).ReachesWait := by
  have hrefused : ∀ byte, (Engine.transferring (a.refuse byte)).ReachesWait := fun byte =>
    Attempt.reachesWait_of_fresh (e := .stop) rfl TransferPhase.noConfusion rfl rfl
  have haddressed : ∀ {b : Attempt},
      b.phase = .writeAddress ∨ b.phase = .readAddress ∨ b.phase = .readBytes ∨ b.phase = .stop →
      b.lineStep = 0 → b.sampled = [] → (Engine.transferring b).ReachesWait := by
    intro b hb hbl hbs
    have helement : ∃ f, b.element = some f := by
      obtain h | h | h | h := hb <;> exact ⟨_, by rw [Attempt.element, h]⟩
    obtain ⟨f, hf⟩ := helement
    refine Attempt.reachesWait_of_fresh hf ?_ hbl hbs
    obtain h | h | h | h := hb <;> rw [h] <;> exact TransferPhase.noConfusion
  refine Engine.ReachesWait.of_run [⟨true, true⟩] ?_
  change (Engine.transferring (a.tick ⟨true, true⟩)).ReachesWait
  rw [Attempt.tick_at_end he rfl hl]
  cases h : a.phase with
  | stop => exact absurd h hp
  | busCheck => rw [Attempt.element, h] at he; cases he
  | writeAddress | readAddress =>
    simp only [Attempt.sample, h, if_true]
    exact hrefused .address
  | writeBytes =>
    simp only [Attempt.sample, h, hs h, ne_eq, not_true_eq_false, if_false, if_true]
    exact hrefused .data
  | start =>
    refine haddressed ?_ rfl rfl
    simp only [Attempt.moveOn, Attempt.nextPhase, h]
    split <;> simp
  | repeatedStart =>
    refine haddressed ?_ rfl rfl
    simp [Attempt.moveOn, Attempt.nextPhase, h]
  | readBytes =>
    refine haddressed ?_ rfl rfl
    simp only [Attempt.moveOn, Attempt.nextPhase, h]
    split <;> simp

/-- In a transfer the wait comes where it may (R105). -/
theorem Attempt.reachesWait_of_mayStretch (h : (Engine.transferring a).inPlace = true) (hm : a.mayStretch = true) :
    (Engine.transferring a).ReachesWait := by
  obtain ⟨e, he⟩ := Attempt.element_of_inPlace h
  obtain ⟨-, hsample, hb, hl⟩ := (Attempt.inPlace_iff a).1 h
  have htoEnd : a.phase ≠ .readBytes → a.phase ≠ .stop → (a.phase = .writeBytes → a.sampled = []) →
      (Engine.transferring a).ReachesWait := by
    intro hr hstop hs
    have hlast : a.lineStep + (highs (a.phase.length - 1 - a.lineStep)).length + 1 = a.phase.length := by
      rw [highs_length]; omega
    refine Engine.ReachesWait.of_run (highs (a.phase.length - 1 - a.lineStep)) ?_
    rw [Attempt.run_within highs_high he hr (by omega)]
    exact Attempt.reachesWait_of_end
      (a := { a with lineStep := a.lineStep + (highs (a.phase.length - 1 - a.lineStep)).length })
      ((Attempt.element_with (sampled := a.sampled) fun h => absurd h hr).trans he) hlast hstop hs
  unfold Attempt.mayStretch at hm
  cases hp : a.phase with
  | busCheck => exact absurd hp hb
  | start | writeAddress | repeatedStart | readAddress =>
    exact htoEnd (by rw [hp]; decide) (by rw [hp]; decide) (by rw [hp]; exact nofun)
  | writeBytes =>
    rw [hp] at hm
    exact htoEnd (by rw [hp]; decide) (by rw [hp]; decide) fun _ => List.isEmpty_iff.1 hm
  | readBytes =>
    simp only [hp, bne_iff_ne, ne_eq, bitSteps] at hm
    have hne : a.lineStep ≠ 23 := fun h23 => hm (by rw [h23])
    by_cases h26 : a.lineStep = 26
    · exact Attempt.reachesWait_of_end he (by rw [hp, h26]; rfl) (by rw [hp]; decide) (by rw [hp]; exact nofun)
    · have hlen : a.lineStep < 27 := by rwa [hp] at hl
      have hreceived : ∃ last, e = .received last := by
        rw [Attempt.element, hp] at he
        exact ⟨_, (Option.some.inj he).symm⟩
      obtain ⟨last, rfl⟩ := hreceived
      have hall : ∀ last : Bool, ∀ i : Fin 9, ((BusElement.received last).steps[3 * i.val + 1]?.map LineStep.waits) =
          some true := by decide
      obtain ⟨step, hstep, hwaits⟩ := Option.map_eq_some_iff.1 (hall last ⟨(a.lineStep + 1) / 3, by omega⟩)
      refine Attempt.reachesWait_within he (i := 3 * ((a.lineStep + 1) / 3) + 1) (by omega) hstep hwaits fun _ => ?_
      by_cases h24 : 24 ≤ a.lineStep
      · exact .inl h24
      · have hcount : a.sampled.length = a.lineStep / 3 := by
          simp [Attempt.samplesAgree, hp, h24, hne] at hsample
          exact hsample.1
        exact .inr ⟨hcount, by omega⟩
  | stop =>
    simp only [hp, decide_eq_true_eq] at hm
    have hstop : e = .stop := by
      rw [Attempt.element, hp] at he
      exact (Option.some.inj he).symm
    subst hstop
    exact Attempt.reachesWait_within he hm (step := ⟨false, true, true, false⟩) rfl rfl (by rw [hp]; exact nofun)

end

/-- A transfer that waits for no clock before its next report: a byte's report is due, or the stop's wait is past. -/
def Attempt.PastWaits (a : Attempt) : Prop :=
  (a.phase = .writeBytes ∧ a.lineStep = 26 ∧ a.completed < a.writeBytes.length ∧ a.sampled ≠ []) ∨
    (a.phase = .readBytes ∧ a.lineStep = 23 ∧ 7 ≤ a.sampled.length) ∨ (a.phase = .stop ∧ a.lineStep = 2)

/-- The line step such a transfer stands in. -/
theorem Attempt.PastWaits.step {a : Attempt} (h : a.PastWaits) :
    ∃ samples, a.elementSteps[a.lineStep]? = some ⟨false, false, false, samples⟩ ∧ (samples = false → a.phase = .stop) := by
  obtain ⟨hp, hl, hc, -⟩ | ⟨hp, hl, -⟩ | ⟨hp, hl⟩ := h
  · refine ⟨true, ?_, nofun⟩
    have he : a.element = some (.sent a.writeBytes[a.completed]) := by
      rw [Attempt.element, hp, List.getElem?_eq_getElem hc]
      rfl
    rw [Attempt.elementSteps_eq he, hl]
    rfl
  · refine ⟨true, ?_, nofun⟩
    rw [Attempt.elementSteps_eq (e := .received _) (by rw [Attempt.element, hp]), hl]
    rfl
  · refine ⟨false, ?_, fun _ => hp⟩
    rw [Attempt.elementSteps_eq (e := .stop) (by rw [Attempt.element, hp]), hl]
    rfl

theorem Attempt.PastWaits.tick {a : Attempt} (h : a.PastWaits) (r : BusLines) : (a.tick r).PastWaits := by
  obtain ⟨samples, hstep, hquiet⟩ := h.step
  rw [Attempt.tick, hstep]
  simp only [Bool.false_eq_true, false_and, if_false]
  obtain ⟨hp, hl, hc, hs⟩ | ⟨hp, hl, hs⟩ | ⟨hp, hl⟩ := id h
  · obtain rfl : samples = true := by
      by_contra hn
      cases hp.symm.trans (hquiet (by simpa using hn))
    simp only [if_true, Attempt.sample, hp, if_pos hs]
    exact h
  · obtain rfl : samples = true := by
      by_contra hn
      cases hp.symm.trans (hquiet (by simpa using hn))
    simp only [if_true, Attempt.sample, hp]
    by_cases h8 : 8 ≤ a.sampled.length
    · rw [if_pos h8]
      exact h
    · rw [if_neg h8, if_pos (by omega)]
      refine .inr (.inl ⟨rfl, hl, ?_⟩)
      rw [List.length_append]
      omega
  · have hadvance : a.advance = a := by
      rw [Attempt.advance, Attempt.elementSteps_eq (e := .stop) (by rw [Attempt.element, hp]), hl, if_neg (by decide),
        if_pos hp]
    have hsample : a.sample r.sdaHigh = a := by rw [Attempt.sample, hp]
    rw [hadvance, hsample, ite_self]
    exact h

/-- In a transfer the wait comes exactly where it may (R105). -/
theorem Attempt.reachesWait_iff {a : Attempt} (h : (Engine.transferring a).inPlace = true) :
    (Engine.transferring a).ReachesWait ↔ a.mayStretch = true := by
  refine ⟨fun hreach => ?_, Attempt.reachesWait_of_mayStretch h⟩
  by_contra hm
  obtain ⟨hplace, hsample, hb, hl⟩ := (Attempt.inPlace_iff a).1 h
  have hpast : a.PastWaits := by
    unfold Attempt.mayStretch at hm
    cases hp : a.phase with
    | busCheck => exact absurd hp hb
    | start | writeAddress | repeatedStart | readAddress =>
      rw [hp] at hm
      exact absurd rfl hm
    | writeBytes =>
      have hs : a.sampled ≠ [] := by simpa [hp] using hm
      have hdue : a.lineStep = 26 ∧ a.sampled = [false] := by
        simp [Attempt.samplesAgree, hp, hs] at hsample
        exact hsample.1
      exact .inl ⟨hp, hdue.1, by simpa [Attempt.phaseAgrees, hp] using hplace, hs⟩
    | readBytes =>
      have h23 : a.lineStep = 23 := by simpa [hp, bitSteps] using hm
      refine .inr (.inl ⟨hp, h23, ?_⟩)
      simp [Attempt.samplesAgree, hp, h23] at hsample
      omega
    | stop =>
      have h2 : ¬a.lineStep ≤ 1 := by simpa [hp] using hm
      rw [hp, TransferPhase.length] at hl
      exact .inr (.inr ⟨hp, by omega⟩)
  refine Engine.not_reachesWait (p := fun e => ∃ a : Attempt, a.PastWaits ∧ e = .transferring a) ?_ ?_ ⟨a, hpast, rfl⟩ hreach
  · rintro _ r ⟨a, ha, rfl⟩
    exact ⟨a.tick r, ha.tick r, rfl⟩
  · rintro _ ⟨a, ha, rfl⟩
    obtain ⟨samples, hstep, -⟩ := ha.step
    rw [Engine.drives, Engine.lineStep, hstep]
    rfl

/-! ### In an abort -/

theorem abort_reachesWait_iff {a : Attempt} {finishing : BusElement}
    (h : (Engine.aborting a finishing).inPlace = true) :
    (Engine.aborting a finishing).ReachesWait ↔ a.abortMayStretch finishing = true := by
  have hl : a.lineStep < finishing.steps.length := of_decide_eq_true h
  have hmay : a.abortMayStretch finishing = true ↔ finishing ≠ .stop ∨ a.lineStep ≤ 1 := by
    simp [Attempt.abortMayStretch]
  rw [hmay]
  constructor
  · intro hreach
    by_contra hn
    rw [not_or, not_not] at hn
    obtain ⟨rfl, h2⟩ := hn
    have h2 : a.lineStep = 2 := by
      have : BusElement.stop.steps.length = 3 := rfl
      omega
    refine Engine.not_reachesWait (p := fun e => e = .aborting a .stop) ?_ ?_ rfl hreach
    · rintro _ r rfl
      change abortTick a .stop r = _
      simp only [abortTick, h2]
      rfl
    · rintro _ rfl
      rw [Engine.drives, Engine.lineStep, h2]
      rfl
  · intro hm
    have hdrives := fun n hi => drives_run_aborting (readings := highs n) highs_high hl hi
    simp only [highs_length] at hdrives
    by_cases hstop : finishing = .stop
    · subst hstop
      have h1 : a.lineStep ≤ 1 := hm.resolve_left (not_not.2 rfl)
      have hcourse : (abortCourse .stop a.lineStep)[1 - a.lineStep]? = some ⟨false, true, true, false⟩ := by
        rw [abortCourse, if_pos rfl, List.append_nil, List.getElem?_drop, Nat.add_sub_cancel' h1]
        rfl
      obtain ⟨hlt, -⟩ := List.getElem?_eq_some_iff.1 hcourse
      exact ⟨_, by rw [Option.some.inj ((hdrives _ hlt).trans hcourse)]⟩
    · have hcourse : (abortCourse finishing a.lineStep)[(finishing.steps.drop a.lineStep).length + 1]? =
          some ⟨false, true, true, false⟩ := by
        rw [abortCourse, if_neg hstop, List.getElem?_append_right (Nat.le_add_right _ 1), Nat.add_sub_cancel_left]
        rfl
      obtain ⟨hlt, -⟩ := List.getElem?_eq_some_iff.1 hcourse
      exact ⟨_, by rw [Option.some.inj ((hdrives _ hlt).trans hcourse)]⟩

/-! ### In a bus clear -/

/-- A clear past the wait of its stop. -/
def BusClear.PastWaits (b : BusClear) : Prop :=
  (b.stage = .stop ∧ (b.lineStep = 2 ∨ b.lineStep = 3)) ∨ ∃ success, b.stage = .ended success ∧ b.lineStep = 0

theorem BusClear.PastWaits.tick {b : BusClear} (h : b.PastWaits) (r : BusLines) : (b.tick r).PastWaits := by
  obtain ⟨speed, pulses, stage, lineStep⟩ := b
  obtain ⟨rfl, rfl | rfl⟩ | ⟨success, rfl, rfl⟩ := h
  · exact .inl ⟨rfl, .inr rfl⟩
  · exact .inr ⟨_, rfl, rfl⟩
  · exact .inr ⟨_, rfl, rfl⟩

theorem BusClear.PastWaits.drives {b : BusClear} (h : b.PastWaits) (purpose : ClearPurpose) :
    (Engine.clearing purpose b).drives.waits = false := by
  obtain ⟨speed, pulses, stage, lineStep⟩ := b
  obtain ⟨rfl, rfl | rfl⟩ | ⟨success, rfl, rfl⟩ := h <;> rfl

theorem clear_reachesWait_iff {purpose : ClearPurpose} {b : BusClear}
    (h : (Engine.clearing purpose b).inPlace = true) :
    (Engine.clearing purpose b).ReachesWait ↔ b.mayStretch = true := by
  have hl : b.lineStep < b.stage.steps.length := by
    have hplace : b.inPlace = true := by
      have h : (b.inPlace && _) = true := h
      exact (Bool.and_eq_true_iff.1 h).1
    rw [BusClear.inPlace, Bool.and_eq_true] at hplace
    exact of_decide_eq_true hplace.1
  constructor
  · intro hreach
    by_contra hm
    have hpast : b.PastWaits := by
      unfold BusClear.mayStretch at hm
      cases hs : b.stage with
      | release | pulse => rw [hs] at hm; exact absurd rfl hm
      | stop =>
        have h1 : ¬b.lineStep ≤ 1 := by simpa [hs] using hm
        rw [hs] at hl
        change b.lineStep < 4 at hl
        exact .inl ⟨hs, by omega⟩
      | ended success =>
        rw [hs] at hl
        change b.lineStep < 1 at hl
        exact .inr ⟨success, hs, by omega⟩
    refine Engine.not_reachesWait (p := fun e => ∃ b : BusClear, b.PastWaits ∧ e = .clearing purpose b) ?_ ?_
      ⟨b, hpast, rfl⟩ hreach
    · rintro _ r ⟨b, hb, rfl⟩
      exact ⟨b.tick r, hb.tick r, rfl⟩
    · rintro _ ⟨b, hb, rfl⟩
      exact hb.drives purpose
  · intro hm
    obtain ⟨speed, pulses, stage, lineStep⟩ := b
    cases stage with
    | release =>
      change lineStep < 2 at hl
      obtain rfl | rfl : lineStep = 0 ∨ lineStep = 1 := by omega
      · exact ⟨[], rfl⟩
      · exact ⟨highs 2, rfl⟩
    | pulse =>
      change lineStep < 3 at hl
      obtain rfl | rfl | rfl : lineStep = 0 ∨ lineStep = 1 ∨ lineStep = 2 := by omega
      · exact ⟨highs 1, rfl⟩
      · exact ⟨[], rfl⟩
      · exact ⟨highs 2, rfl⟩
    | stop =>
      have h1 : lineStep ≤ 1 := of_decide_eq_true hm
      obtain rfl | rfl : lineStep = 0 ∨ lineStep = 1 := by omega
      · exact ⟨highs 1, rfl⟩
      · exact ⟨[], rfl⟩
    | ended success => cases hm

end Sys2Proof.Machine
end

section
/-! PROOFS. Stretch limits and the ends of bus clears (O60). -/

namespace Sys2Proof.Machine

/-! ### The wait for the clock (R105) -/

/-- While the clock is waited for and reads low, nothing goes on. -/
theorem Engine.tick_of_wait {e : Engine} {r : BusLines} (hw : e.drives.waits = true) (hr : r.sclHigh = false) :
    e.tick (some r) = e := by
  have hstep : ∃ step, e.lineStep = some step ∧ step.waits = true := by
    cases hs : e.lineStep with
    | none => rw [Engine.drives, hs] at hw; cases hw
    | some step => rw [Engine.drives, hs] at hw; exact ⟨step, rfl, hw⟩
  obtain ⟨step, hstep, hwaits⟩ := hstep
  have hstay : step.waits = true ∧ r.sclHigh = false := ⟨hwaits, hr⟩
  cases e with
  | off | idle | pulsing | hung => cases hstep
  | transferring a =>
    have hstep : a.elementSteps[a.lineStep]? = some step := hstep
    have htick : a.tick r = a := by
      rw [Attempt.tick, hstep]
      exact if_pos hstay
    exact congrArg Engine.transferring htick
  | aborting a finishing =>
    have hstep : finishing.steps[a.lineStep]? = some step := hstep
    change abortTick a finishing r = _
    rw [abortTick, hstep]
    exact if_pos hstay
  | clearing purpose b =>
    have hstep : b.stage.steps[b.lineStep]? = some step := hstep
    have htick : b.tick r = b := by
      rw [BusClear.tick, hstep]
      exact if_pos hstay
    exact congrArg (Engine.clearing purpose) htick

/-- Without a reading no line step is made. -/
theorem Engine.tick_none (e : Engine) : e.tick none = e := by
  cases e <;> rfl

/-! ### The ends of work, on the whole part -/

section
variable {s : State} {c : ConnId} {older younger : List Entry} {e : Entry}

/-- The engine has another state, and a start decision follows. -/
theorem State.onSite_engine_started (s : State) (c : ConnId) (engine : Engine) (lines : BusLines) :
    (s.onSite c fun t => (t.setConn { t.conn with engine }).startDecision lines) =
      (s.withConn c { s.conns[c] with engine }).started c lines :=
  State.onSite_setConn_then s c (fun k => { k with engine }) fun t => t.startDecision lines

variable (hd : s.conns[c].tags.Nodup) (hq : s.conns[c].queue = older ++ e :: younger)
  (ho : ∀ x ∈ older, x.state ≠ .active) (he : e.state = .active)
include hd hq ho he

/-- The engine has another state and the ACTIVE entry ends. -/
theorem State.onSite_engine_ended (engine : Engine) (acked : Entry → Nat) (status : Status) (data : List Byte) :
    (s.onSite c fun t => (t.setConn { t.conn with engine }).endActive acked status data) =
      ((s.withConn c { s.conns[c] with engine, queue := older ++ younger }).withOut
        (s.out.afterEnd c { e with acked := acked e } status data)).drained c :=
  (State.onSite_setConn_then s c (fun k => { k with engine }) fun t => t.endActive acked status data).trans
    (State.onSite_endActive (k := { s.conns[c] with engine }) hq ho he hd acked status data)

/-- The engine has another state, the ACTIVE entry ends, and a start decision follows. -/
theorem State.onSite_engine_ended_started (engine : Engine) (acked : Entry → Nat) (status : Status) (data : List Byte)
    (lines : BusLines) :
    (s.onSite c fun t => ((t.setConn { t.conn with engine }).endActive acked status data).startDecision lines) =
      (((s.withConn c { s.conns[c] with engine, queue := older ++ younger }).withOut
        (s.out.afterEnd c { e with acked := acked e } status data)).drained c).started c lines :=
  (State.onSite_startDecision lines ((Site.endActive_place _ _ _ _).trans (Site.setConn_place _ _))).trans
    (congrArg (State.started · c lines) (State.onSite_engine_ended hd hq ho he engine acked status data))

end

/-! ### The end of a clear (R113) -/

section
variable {s : State} {c : ConnId} {older younger : List Entry} {e : Entry} {lines : BusLines}

/-- A requested clear's entry ends with it. -/
theorem State.onSite_clearEnds_requested (hd : s.conns[c].tags.Nodup) (hq : s.conns[c].queue = older ++ e :: younger)
    (ho : ∀ x ∈ older, x.state ≠ .active) (he : e.state = .active) (success : Bool) :
    (s.onSite c fun t => t.clearEnds .requested success lines) =
      (((s.withConn c
        { s.conns[c] with engine := if success then .idle else .hung, queue := older ++ younger }).withOut
        (s.out.afterEnd c { e with acked := e.acked } (if success then .ok else .busHung) [])).drained c).started c
          lines := by
  cases success
  · exact State.onSite_engine_ended_started hd hq ho he .hung (fun e => e.acked) .busHung [] lines
  · exact State.onSite_engine_ended_started hd hq ho he .idle (fun e => e.acked) .ok [] lines

/-- A failed clear before a transfer ends the transfer's entry. -/
theorem State.onSite_clearEnds_beforeTransfer (hd : s.conns[c].tags.Nodup)
    (hq : s.conns[c].queue = older ++ e :: younger) (ho : ∀ x ∈ older, x.state ≠ .active) (he : e.state = .active)
    (a : Attempt) :
    (s.onSite c fun t => t.clearEnds (.beforeTransfer a false) false lines) =
      (((s.withConn c { s.conns[c] with engine := .hung, queue := older ++ younger }).withOut
        (s.out.afterEnd c { e with acked := 0 } .busStuck [])).drained c).started c lines :=
  State.onSite_engine_ended_started hd hq ho he .hung (fun _ => 0) .busStuck [] lines

/-- A clear that works for no entry leaves the engine alone. -/
theorem State.onSite_clearEnds_alone {purpose : ClearPurpose} {a : Attempt}
    (hp : purpose = .afterStretch ∨ purpose = .beforeTransfer a true ∨
      purpose = .requested ∧ ∀ x ∈ s.conns[c].queue, x.state ≠ .active) (success : Bool) :
    (s.onSite c fun t => t.clearEnds purpose success lines) =
      (s.withConn c { s.conns[c] with engine := if success then .idle else .hung }).started c lines := by
  rw [← State.onSite_engine_started]
  refine State.onSite_congr ?_
  obtain rfl | rfl | ⟨rfl, halone⟩ := hp
  · cases success <;> rfl
  · cases success <;> rfl
  · have hnone : ∀ engine acked status,
        ((s.site c).setConn { (s.site c).conn with engine }).endActive acked status [] =
          (s.site c).setConn { (s.site c).conn with engine } := by
      intro engine acked status
      have hactive : ((s.site c).setConn { (s.site c).conn with engine }).conn.activeEntry = none :=
        Connector.activeEntry_eq_none.2 halone
      simp only [Site.endActive, hactive]
    cases success <;> simp only [Site.clearEnds, hnone] <;> rfl

end

/-! ### The commands -/

section
variable {s : State} {c : ConnId} (hr : s.resetting = none)
include hr

theorem exec_stretchLimit :
    exec (.stretchLimit c) s =
      .next
        (s.onSite c fun t =>
          match s.conns[c].engine with
          | .transferring a =>
            if a.mayStretch then
              (t.setConn { t.conn with engine := .clearing .afterStretch ⟨a.speed, 0, .release, 0⟩ }).endActive
                (fun _ => a.completed) .busStuck []
            else t
          | .aborting a finishing =>
            if a.abortMayStretch finishing then
              t.setConn { t.conn with engine := .clearing .afterStretch ⟨a.speed, 0, .release, 0⟩ }
            else t
          | .clearing purpose b => if b.mayStretch then t.clearEnds purpose false ⟨false, false⟩ else t
          | .off | .idle | .pulsing _ | .hung => t) := by
  change execStretchLimit c s = _
  rw [execStretchLimit, State.whenRunning_running hr]
  refine congrArg Host.Outcome.next (State.onSite_congr ?_)
  rw [show (s.site c).conn.engine = s.conns[c].engine from rfl]
  cases s.conns[c].engine <;> rfl

theorem exec_busClearEnd {purpose : ClearPurpose} {b : BusClear} (heng : s.conns[c].engine = .clearing purpose b)
    {data : List Bool} {after lines : BusLines} {success : Bool} (h : b.result data after = some success) :
    exec (.busClearEnd c data after lines) s = .next (s.onSite c fun t => t.clearEnds purpose success lines) := by
  change execBusClearEnd c data after lines s = _
  rw [execBusClearEnd, State.whenRunning_running hr]
  refine congrArg Host.Outcome.next (State.onSite_congr ?_)
  simp only [show (s.site c).conn.engine = _ from heng, h]

theorem exec_stuckAtStart {a : Attempt} {b : BusClear} {lines : BusLines}
    (heng : s.conns[c].engine = .clearing (.beforeTransfer a false) b) (h : b.stage ≠ .ended true) :
    exec (.attemptOutcome c .stuckAtStart lines) s =
      .next (s.onSite c fun t => t.clearEnds (.beforeTransfer a false) false lines) := by
  change execAttemptOutcome c .stuckAtStart lines s = _
  rw [execAttemptOutcome, State.whenRunning_running hr]
  refine congrArg Host.Outcome.next (State.onSite_congr ?_)
  simp only [show (s.site c).conn.engine = _ from heng]
  exact if_pos ⟨trivial, h⟩

/-- A stretch limit that cannot be reached changes nothing (log entry 3). -/
theorem exec_stretchLimit_of_not_reached (hin : s.conns[c].engine.inPlace = true)
    (h : ¬s.conns[c].engine.ReachesWait) : exec (.stretchLimit c) s = .next s := by
  rw [exec_stretchLimit hr]
  refine congrArg Host.Outcome.next (State.onSite_self ?_)
  cases heng : s.conns[c].engine with
  | off | idle | pulsing | hung => rfl
  | transferring a =>
    rw [heng] at hin h
    exact if_neg (mt (Attempt.reachesWait_iff hin).2 h)
  | aborting a finishing =>
    rw [heng] at hin h
    exact if_neg (mt (abort_reachesWait_iff hin).2 h)
  | clearing purpose b =>
    rw [heng] at hin h
    exact if_neg (mt (clear_reachesWait_iff hin).2 h)

/-- A stretch limit that can be reached fails a clear (R113). -/
theorem exec_stretchLimit_clearing {purpose : ClearPurpose} {b : BusClear}
    (heng : s.conns[c].engine = .clearing purpose b) (hin : s.conns[c].engine.inPlace = true)
    (h : s.conns[c].engine.ReachesWait) :
    exec (.stretchLimit c) s = .next (s.onSite c fun t => t.clearEnds purpose false ⟨false, false⟩) := by
  rw [heng] at hin h
  rw [exec_stretchLimit hr, heng]
  simp only [if_pos ((clear_reachesWait_iff hin).1 h)]

end

/-- Settles O60: by the work the engine has in hand, and by whether a wait can still come. -/
theorem stretchLimitsAndClearsEnd : Obligations.StretchLimitsAndClearsEnd := by
  unfold Obligations.StretchLimitsAndClearsEnd
  constructor
  · refine fun e r => ⟨e.tick_none, fun hw => ⟨?_, Engine.tick_of_wait hw⟩, fun hw => ?_⟩
    · rw [Engine.stretchTimer, hw]
      rfl
    · rw [Engine.stretchTimer, hw]
      rfl
  · intro c older younger e a data after lines success b s hr hdist k working alone ended low rests reached
    have hd := hdist.conn c
    have hreached : reached ↔ k.engine.ReachesWait :=
      exists_congr fun readings => Engine.stretchTimer_ne_none _
    refine ⟨fun hin => ⟨fun hn => ?_, fun hy heng hw => ?_, fun finishing hy heng => ?_, fun hy heng hw => ?_,
      fun hy heng hw => ?_, fun purpose hp hy heng => ?_⟩, fun heng hw hres => ?_, fun heng hw hres => ?_,
      fun heng hstage hw => ?_, fun purpose hp heng hres => ?_⟩
    · exact exec_stretchLimit_of_not_reached hr hin (mt hreached.2 hn)
    · obtain ⟨hq, ho, he⟩ := hw
      have hreach := hreached.1 hy
      rw [heng] at hin hreach
      rw [exec_stretchLimit hr, heng]
      simp only [if_pos ((Attempt.reachesWait_iff hin).1 hreach)]
      exact congrArg Host.Outcome.next (State.onSite_engine_ended hd hq ho he _ (fun _ => a.completed) .busStuck [])
    · have hreach := hreached.1 hy
      rw [heng] at hin hreach
      rw [exec_stretchLimit hr, heng]
      simp only [if_pos ((abort_reachesWait_iff hin).1 hreach)]
      rfl
    · obtain ⟨hq, ho, he⟩ := hw
      rw [exec_stretchLimit_clearing hr heng hin (hreached.1 hy)]
      exact congrArg Host.Outcome.next (State.onSite_clearEnds_requested hd hq ho he false)
    · obtain ⟨hq, ho, he⟩ := hw
      rw [exec_stretchLimit_clearing hr heng hin (hreached.1 hy)]
      exact congrArg Host.Outcome.next (State.onSite_clearEnds_beforeTransfer hd hq ho he a)
    · rw [exec_stretchLimit_clearing hr heng hin (hreached.1 hy)]
      exact congrArg Host.Outcome.next (State.onSite_clearEnds_alone hp false)
    · obtain ⟨hq, ho, he⟩ := hw
      rw [exec_busClearEnd hr heng hres]
      exact congrArg Host.Outcome.next (State.onSite_clearEnds_requested hd hq ho he success)
    · obtain ⟨hq, ho, he⟩ := hw
      rw [exec_busClearEnd hr heng hres]
      refine congrArg Host.Outcome.next ?_
      cases success
      · exact State.onSite_clearEnds_beforeTransfer hd hq ho he a
      · rfl
    · obtain ⟨hq, ho, he⟩ := hw
      rw [exec_stuckAtStart hr heng hstage]
      exact congrArg Host.Outcome.next (State.onSite_clearEnds_beforeTransfer hd hq ho he a)
    · rw [exec_busClearEnd hr heng hres]
      exact congrArg Host.Outcome.next (State.onSite_clearEnds_alone hp success)

end Sys2Proof.Machine
end

section
/-! PROOFS. The course of a bus clear, by the readings of the data line and by its ticks (O24). -/

namespace Sys2Proof.Machine

/-! ### By the readings of the data line -/

section
variable {b : BusClear}

/-- Before the stop, a reading of the data line leads on to the rest of the readings. -/
theorem BusClear.result_cons (h : b.stage = .release ∨ b.stage = .pulse) (high : Bool) (data : List Bool)
    (after : BusLines) : b.result (high :: data) after = (b.read high).result data after := by
  have hread : b.readAll (high :: data) = (b.read high).readAll data := by
    rcases h with h | h <;> rw [BusClear.readAll, h]
  rw [BusClear.result, hread, BusClear.result]

/-- Before the stop, more readings are to come. -/
theorem BusClear.result_nil (h : b.stage = .release ∨ b.stage = .pulse) (after : BusLines) :
    b.result [] after = none := by
  rw [BusClear.result, BusClear.readAll, Option.map_some]
  rcases h with h | h <;> rw [h]

/-- In the stop no reading of the data line is left. -/
theorem BusClear.result_of_stop (h : b.stage = .stop) (data : List Bool) (after : BusLines) :
    b.result data after = if data = [] then some (linesFree after) else none := by
  rw [BusClear.result]
  cases data with
  | nil =>
    rw [BusClear.readAll, Option.map_some, h]
    rfl
  | cons high data =>
    rw [BusClear.readAll, h]
    rfl

/-- A clear that has ended keeps its result. -/
theorem BusClear.result_of_ended {success : Bool} (h : b.stage = .ended success) (data : List Bool) (after : BusLines) :
    b.result data after = if data = [] then some success else none := by
  rw [BusClear.result]
  cases data with
  | nil =>
    rw [BusClear.readAll, Option.map_some, h]
    rfl
  | cons high data =>
    rw [BusClear.readAll, h]
    rfl

end

/-- The readings a clear may still take, with `left` readings of the data line to come at most (R112): high after fewer
low ones than that, when the stop decides, or as many low ones, when the clear fails; no others. -/
structure BusClear.HasLeft (b : BusClear) (left : Nat) : Prop where
  high : ∀ n after, n < left → b.result (List.replicate n false ++ [true]) after = some (linesFree after)
  low : ∀ after, b.result (List.replicate left false) after = some false
  only : ∀ data after, b.result data after ≠ none →
    (∃ n, n < left ∧ data = List.replicate n false ++ [true]) ∨ data = List.replicate left false

/-- A clear that has failed takes no further reading. -/
theorem BusClear.hasLeft_zero {b : BusClear} (h : b.stage = .ended false) : b.HasLeft 0 where
  high _ _ hn := absurd hn (Nat.not_lt_zero _)
  low after := by rw [BusClear.result_of_ended h, List.replicate_zero, if_pos rfl]
  only data after hne := by
    rw [BusClear.result_of_ended h] at hne
    exact .inr (not_not.1 fun hd => hne (if_neg hd))

/-- One reading: a high one leads to the stop, a low one to one reading less. -/
theorem BusClear.hasLeft_succ {b : BusClear} {left : Nat} (h : b.stage = .release ∨ b.stage = .pulse)
    (hstop : (b.read true).stage = .stop) (hleft : (b.read false).HasLeft left) : b.HasLeft (left + 1) where
  high n after hn := by
    cases n with
    | zero => rw [List.replicate_zero, List.nil_append, BusClear.result_cons h, BusClear.result_of_stop hstop, if_pos rfl]
    | succ n =>
      rw [List.replicate_succ, List.cons_append, BusClear.result_cons h]
      exact hleft.high n after (Nat.lt_of_succ_lt_succ hn)
  low after := by
    rw [List.replicate_succ, BusClear.result_cons h]
    exact hleft.low after
  only data after hne := by
    match data with
    | [] => exact absurd (BusClear.result_nil h after) hne
    | true :: data =>
      rw [BusClear.result_cons h, BusClear.result_of_stop hstop] at hne
      have hdata : data = [] := not_not.1 fun hd => hne (if_neg hd)
      exact .inl ⟨0, Nat.succ_pos left, by rw [hdata, List.replicate_zero, List.nil_append]⟩
    | false :: data =>
      rw [BusClear.result_cons h] at hne
      rcases hleft.only data after hne with ⟨n, hn, rfl⟩ | rfl
      · exact .inl ⟨n + 1, Nat.succ_lt_succ hn, rfl⟩
      · exact .inr rfl

/-- In the pulses, one reading is left for each pulse up to the ninth. -/
theorem BusClear.hasLeft_of_pulse (left : Nat) {b : BusClear} (h : b.stage = .pulse) (hp : b.pulses + left = 9)
    (hl : 1 ≤ left) : b.HasLeft left := by
  induction left generalizing b with
  | zero => exact absurd hl (Nat.not_succ_le_zero 0)
  | succ left ih =>
    refine BusClear.hasLeft_succ (.inr h) (by rw [BusClear.read, h]; rfl) ?_
    have hlow : b.read false =
        { b with pulses := b.pulses + 1 }.goTo (if b.pulses + 1 < Config.clearPulses then .pulse else .ended false) := by
      rw [BusClear.read, h]
      rfl
    by_cases hlast : b.pulses + 1 < 9
    · rw [hlow, if_pos (show b.pulses + 1 < Config.clearPulses from hlast)]
      exact ih rfl (show b.pulses + 1 + left = 9 by omega) (by omega)
    · have : left = 0 := by omega
      rw [hlow, if_neg (show ¬b.pulses + 1 < Config.clearPulses from hlast), this]
      exact BusClear.hasLeft_zero rfl

/-- From its beginning a clear has the reading of step 2 and nine pulses. -/
theorem BusClear.hasLeft_of_release {b : BusClear} (h : b.stage = .release) (hp : b.pulses = 0) : b.HasLeft 10 := by
  have hread : ∀ high, b.read high = b.goTo (if high then .stop else .pulse) := fun high => by rw [BusClear.read, h]
  refine BusClear.hasLeft_succ (.inl h) (by rw [hread]; rfl) ?_
  rw [hread]
  exact BusClear.hasLeft_of_pulse 9 rfl (show b.pulses + 9 = 9 by rw [hp]) (by decide)

/-! ### By its ticks -/

/-- Reading by reading, an engine drives the line steps given and comes to another. -/
inductive Engine.Follows : Engine → List BusLines → List LineStep → Engine → Prop where
  | nil (e : Engine) : Engine.Follows e [] [] e
  | cons {e e' : Engine} {r : BusLines} {readings : List BusLines} {steps : List LineStep} :
    Engine.Follows (e.tick (some r)) readings steps e' → Engine.Follows e (r :: readings) (e.drives :: steps) e'

theorem Engine.Follows.append {e e' e'' : Engine} {xs ys : List BusLines} {first second : List LineStep}
    (h : e.Follows xs first e') (h' : e'.Follows ys second e'') : e.Follows (xs ++ ys) (first ++ second) e'' := by
  induction h with
  | nil => exact h'
  | cons _ ih => exact .cons (ih h')

theorem Engine.Follows.run_eq {e e' : Engine} {readings : List BusLines} {steps : List LineStep}
    (h : e.Follows readings steps e') : e.run readings = e' := by
  induction h with
  | nil => rfl
  | cons _ ih => exact ih

theorem Engine.Follows.drives_eq {e e' : Engine} {readings : List BusLines} {steps : List LineStep}
    (h : e.Follows readings steps e') {i : Nat} (hi : i < steps.length) :
    some (e.run (readings.take i)).drives = steps[i]? := by
  induction h generalizing i with
  | nil => exact absurd hi (Nat.not_lt_zero i)
  | cons _ ih =>
    cases i with
    | zero => rfl
    | succ i => exact ih (Nat.lt_of_succ_lt_succ hi)

section
variable (purpose : ClearPurpose) (speed : BusSpeed)

/-- A clear at the first line step of a stage. -/
abbrev clearAt (pulses : Nat) (stage : ClearStage) : Engine := .clearing purpose ⟨speed, pulses, stage, 0⟩

/-- Both lines are released and the data line is read. -/
theorem clear_follows_release (high : Bool) :
    (clearAt purpose speed 0 .release).Follows (List.replicate 2 ⟨true, high⟩) ClearStage.release.steps
      (clearAt purpose speed 0 (if high then .stop else .pulse)) := by
  cases high <;> exact .cons (.cons (.nil _))

/-- A clock pulse is counted as it is read. -/
theorem clear_follows_pulse (pulses : Nat) (high : Bool) :
    (clearAt purpose speed pulses .pulse).Follows (List.replicate 3 ⟨true, high⟩) ClearStage.pulse.steps
      (clearAt purpose speed (pulses + 1)
        (if high then .stop else if pulses + 1 < Config.clearPulses then .pulse else .ended false)) :=
  .cons (.cons (.cons (.nil _)))

/-- The stop is made and both lines are read. -/
theorem clear_follows_stop (pulses : Nat) (after : BusLines) :
    (clearAt purpose speed pulses .stop).Follows (List.replicate 3 ⟨true, true⟩ ++ [after]) ClearStage.stop.steps
      (clearAt purpose speed pulses (.ended (linesFree after))) :=
  .cons (.cons (.cons (.cons (.nil _))))

/-- One pulse after another reads low. -/
theorem clear_follows_pulses (count pulses : Nat) (h : pulses + count < 9) :
    (clearAt purpose speed pulses .pulse).Follows (List.replicate (3 * count) ⟨true, false⟩)
      (List.replicate count ClearStage.pulse.steps).flatten (clearAt purpose speed (pulses + count) .pulse) := by
  induction count generalizing pulses with
  | zero => exact .nil _
  | succ count ih =>
    have hmore : pulses + 1 < Config.clearPulses := by
      change pulses + 1 < 9
      omega
    have hfirst := clear_follows_pulse purpose speed pulses false
    rw [if_neg Bool.false_ne_true, if_pos hmore] at hfirst
    have hcount : pulses + (count + 1) = pulses + 1 + count := by omega
    rw [show 3 * (count + 1) = 3 + 3 * count by omega, List.replicate_add, List.replicate_succ (n := count),
      List.flatten_cons, hcount]
    exact hfirst.append (ih (pulses + 1) (by omega))

/-- The lines of a whole clear that finds the data line high after `n` low readings. -/
theorem clear_follows_course (n : Nat) (after : BusLines) (hn : n ≤ 9) :
    (clearAt purpose speed 0 .release).Follows
      (List.replicate (3 * n - 1) ⟨true, false⟩ ++ List.replicate (if n = 0 then 2 else 3) ⟨true, true⟩ ++
        List.replicate 3 ⟨true, true⟩ ++ [after])
      (ClearStage.release.steps ++ (List.replicate n ClearStage.pulse.steps).flatten ++ ClearStage.stop.steps)
      (clearAt purpose speed n (.ended (linesFree after))) := by
  rw [List.append_assoc _ (List.replicate 3 _)]
  refine Engine.Follows.append ?_ (clear_follows_stop purpose speed n after)
  cases n with
  | zero => exact clear_follows_release purpose speed true
  | succ n =>
    have hlow := (clear_follows_release purpose speed false).append (clear_follows_pulses purpose speed n 0 (by omega))
    have hall := hlow.append (clear_follows_pulse purpose speed (0 + n) true)
    rw [if_pos rfl, Nat.zero_add] at hall
    rw [show 3 * (n + 1) - 1 = 2 + 3 * n by omega, List.replicate_add, if_neg (Nat.succ_ne_zero n),
      List.replicate_succ' (n := n), List.flatten_append, List.flatten_singleton, ← List.append_assoc]
    exact hall

/-- Low to the ninth pulse, a clear fails. -/
theorem clear_follows_failure :
    ∃ steps, (clearAt purpose speed 0 .release).Follows (List.replicate 29 ⟨true, false⟩) steps
      (clearAt purpose speed 9 (.ended false)) :=
  ⟨_, ((clear_follows_release purpose speed false).append (clear_follows_pulses purpose speed 8 0 (by decide))).append
    (clear_follows_pulse purpose speed 8 false)⟩

/-- A clear that has ended stands. -/
theorem clear_run_of_ended (pulses : Nat) (success : Bool) (readings : List BusLines) :
    (clearAt purpose speed pulses (.ended success)).run readings = clearAt purpose speed pulses (.ended success) := by
  induction readings with
  | nil => rfl
  | cons r readings ih => exact ih

end

/-- Settles O24: by the readings still to come, by induction on the pulses left; by ticks, stage after stage. -/
theorem busClearCourse : Obligations.BusClearCourse := by
  unfold Obligations.BusClearCourse
  refine ⟨?_, ?_, ?_⟩
  · intro b left h
    have hleft : b.HasLeft left := by
      rcases h with ⟨hs, hp, rfl⟩ | ⟨hs, hp, hl⟩
      · exact BusClear.hasLeft_of_release hs hp
      · exact BusClear.hasLeft_of_pulse left hs hp hl
    exact ⟨hleft.high, hleft.low, hleft.only⟩
  · exact fun b data after => ⟨fun h => BusClear.result_of_stop h data after,
      fun success h => BusClear.result_of_ended h data after⟩
  · intro purpose speed n after hn
    have hcourse := clear_follows_course purpose speed n after hn
    refine ⟨fun i hi => hcourse.drives_eq hi, hcourse.run_eq, ?_⟩
    intro count hcount
    obtain ⟨steps, hfail⟩ := clear_follows_failure purpose speed
    obtain ⟨more, rfl⟩ := Nat.exists_eq_add_of_le hcount
    rw [List.replicate_add, Engine.run_append, hfail.run_eq]
    exact clear_run_of_ended purpose speed 9 false _

end Sys2Proof.Machine
end

section
/-! PROOFS. Bytes on the line and the frame check as numbers (R140, R142, R183), for O25 and O38. -/

namespace Sys2Proof.Machine

/-! ### Bytes on the line (R140) -/

/-- The eight data bits spell the byte. -/
theorem byteOfBits_getLsbD (b : Byte) :
    byteOfBits (b.getLsbD 0) (b.getLsbD 1) (b.getLsbD 2) (b.getLsbD 3) (b.getLsbD 4) (b.getLsbD 5) (b.getLsbD 6)
      (b.getLsbD 7) = b := by
  revert b
  decide +kernel

/-- The idle line gives no byte. -/
theorem sampleLine_idle (idle : Nat) (levels : List Bool) :
    sampleLine (List.replicate idle true ++ levels) = sampleLine levels := by
  induction idle with
  | zero => rfl
  | succ idle ih => exact ih

/-- A byte's levels are sampled as the byte, damaged where its stop bit is low. -/
theorem sampleLine_byte (b : Byte) (stop : Bool) (levels : List Bool) :
    sampleLine ([false, b.getLsbD 0, b.getLsbD 1, b.getLsbD 2, b.getLsbD 3, b.getLsbD 4, b.getLsbD 5, b.getLsbD 6,
      b.getLsbD 7, stop] ++ levels) = ⟨b, !stop⟩ :: sampleLine levels :=
  congrArg (fun value => (⟨value, !stop⟩ : RxByte) :: sampleLine levels) (byteOfBits_getLsbD b)

/-- Bytes sent back to back are sampled as those bytes. -/
theorem sampleLine_flatMap (bytes : List Byte) : sampleLine (bytes.flatMap byteLevels) = undamaged bytes := by
  induction bytes with
  | nil => rfl
  | cons b bytes ih =>
    calc
      sampleLine ((b :: bytes).flatMap byteLevels) = ⟨b, !true⟩ :: sampleLine (bytes.flatMap byteLevels) :=
        sampleLine_byte b true _
      _ = undamaged (b :: bytes) := by rw [ih]; rfl

theorem length_flatMap_byteLevels (bytes : List Byte) : (bytes.flatMap byteLevels).length = 10 * bytes.length := by
  induction bytes with
  | nil => rfl
  | cons b bytes ih =>
    have hb : (byteLevels b).length = 10 := rfl
    rw [List.flatMap_cons, List.length_append, ih, hb, List.length_cons]
    omega

/-! ### The frame check (R142) -/

/-- One bit enters the check register. -/
def crcEnter (r : Half) (bit : Bool) : Half := if r.msb = bit then r <<< 1 else (r <<< 1) ^^^ 0x1021

theorem crcEnter_toNat (r : Half) (bit : Bool) : (crcEnter r bit).toNat = checkShift r.toNat bit := by
  have hmsb : r.msb = decide (2 ^ 15 ≤ r.toNat) := BitVec.msb_eq_decide r
  have hshift : (r <<< 1).toNat = 2 * r.toNat % 2 ^ 16 := by
    rw [BitVec.toNat_shiftLeft, Nat.shiftLeft_eq, pow_one, Nat.mul_comm]
  rw [crcEnter, checkShift, hmsb]
  split
  · exact hshift
  · rw [BitVec.toNat_xor, hshift]
    rfl

/-- A shift of the register with the rest of a byte in its high bits: the first of these bits enters, and the others move
up. -/
theorem crcShift_xor (r : Half) (b : Byte) {i : Nat} (hi : i < 8) :
    crcShift (r ^^^ (b.setWidth 16 <<< (8 + i))) = crcEnter r (b.getLsbD (7 - i)) ^^^
      (b.setWidth 16 <<< (8 + (i + 1))) := by
  have hbit : (b.setWidth 16 <<< (8 + i)).msb = b.getLsbD (7 - i) := by
    rw [BitVec.msb_eq_getLsbD_last, BitVec.getLsbD_shiftLeft, BitVec.getLsbD_setWidth,
      show 16 - 1 - (8 + i) = 7 - i by omega]
    simp only [show 16 - 1 < 16 by omega, show ¬16 - 1 < 8 + i by omega, show 7 - i < 16 by omega, decide_true,
      decide_false, Bool.not_false, Bool.true_and]
  have hmove : (r ^^^ (b.setWidth 16 <<< (8 + i))) <<< 1 = (r <<< 1) ^^^ (b.setWidth 16 <<< (8 + (i + 1))) := by
    rw [BitVec.shiftLeft_xor_distrib, ← BitVec.shiftLeft_add, Nat.add_assoc]
  rw [crcShift, BitVec.msb_xor, hbit, hmove, crcEnter]
  by_cases hsame : r.msb = b.getLsbD (7 - i)
  · rw [if_pos hsame, hsame, Bool.xor_self, if_neg Bool.false_ne_true]
  · have hxor : (r.msb ^^ b.getLsbD (7 - i)) = true := bne_iff_ne.2 hsame
    rw [if_neg hsame, if_pos hxor, BitVec.xor_assoc, BitVec.xor_assoc, BitVec.xor_comm (b.setWidth 16 <<< _)]

/-- The bits of a byte that have entered after some shifts, most significant first. -/
theorem crcShift_iterate (r : Half) (b : Byte) {i : Nat} (hi : i ≤ 8) :
    crcShift^[i] (r ^^^ (b.setWidth 16 <<< 8)) =
      ((List.range i).map fun j => b.getLsbD (7 - j)).foldl crcEnter r ^^^ (b.setWidth 16 <<< (8 + i)) := by
  induction i with
  | zero => rfl
  | succ i ih =>
    rw [Function.iterate_succ_apply', ih (Nat.le_of_succ_le hi), crcShift_xor _ _ hi, List.range_succ, List.map_append,
      List.foldl_append]
    rfl

/-- A byte enters the check register, most significant bit first. -/
theorem crcByte_toNat (r : Half) (b : Byte) :
    (crcByte r b).toNat = ((List.range 8).map fun i => b.toNat.testBit (7 - i)).foldl checkShift r.toNat := by
  have hall : crcByte r b = ((List.range 8).map fun i => b.getLsbD (7 - i)).foldl crcEnter r := by
    have hgone : b.setWidth 16 <<< (8 + 8) = 0#16 := BitVec.shiftLeft_eq_zero (Nat.le_refl 16)
    have hshifts := crcShift_iterate r b (Nat.le_refl 8)
    rw [hgone, BitVec.xor_zero] at hshifts
    exact hshifts
  have hfold : ∀ (bits : List Bool) (r : Half), (bits.foldl crcEnter r).toNat = bits.foldl checkShift r.toNat := by
    intro bits
    induction bits with
    | nil => exact fun r => rfl
    | cons bit bits ih => exact fun r => by rw [List.foldl_cons, ih, crcEnter_toNat, List.foldl_cons]
  rw [hall, hfold]
  rfl

/-- The frame check of bytes is the number of R142. -/
theorem crc16_toNat (bytes : List Byte) : (crc16 bytes).toNat = checkNumber (bytes.map fun b => b.toNat) := by
  have hfold : ∀ r : Half, (bytes.foldl crcByte r).toNat =
      ((bytes.map fun b => b.toNat).flatMap fun b => (List.range 8).map fun i => b.testBit (7 - i)).foldl checkShift
        r.toNat := by
    induction bytes with
    | nil => exact fun r => rfl
    | cons b bytes ih =>
      intro r
      rw [List.foldl_cons, ih, crcByte_toNat, List.map_cons, List.flatMap_cons, List.foldl_append]
  exact hfold 0xFFFF

/-! ### The bytes of frames (R183) -/

theorem highByte_toNat (h : Half) : (highByte h).toNat = h.toNat / 256 := by
  have hlt := h.isLt
  rw [highByte, BitVec.toNat_setWidth, BitVec.toNat_ushiftRight, Nat.shiftRight_eq_div_pow]
  omega

theorem lowByte_toNat (h : Half) : (lowByte h).toNat = h.toNat % 256 := BitVec.toNat_setWidth 8 h

theorem controlByte_toNat (type : BitVec 2) (number : Seq) :
    (controlByte type number).toNat = 64 * type.toNat + number.toNat := by
  rw [controlByte, BitVec.toNat_append, ← Nat.shiftLeft_add_eq_or_of_lt number.isLt, Nat.shiftLeft_eq, Nat.mul_comm]

/-- A frame on the line, as numbers. -/
theorem frameBytes_toNat (type : BitVec 2) (number : Seq) (payload : List Byte) (h : payload.length ≤ 80) :
    (frameBytes (controlByte type number) payload).map (fun b => b.toNat) =
      frameNumbers type.toNat number.toNat (payload.map fun b => b.toNat) := by
  have hlength : (BitVec.ofNat 8 payload.length).toNat = payload.length := Nat.mod_eq_of_lt (by omega)
  simp only [frameBytes, frameNumbers, List.map_append, List.map_cons, List.map_nil, highByte_toNat, lowByte_toNat,
    crc16_toNat, controlByte_toNat, hlength, List.length_map]
  rfl

end Sys2Proof.Machine
end

section
/-! PROOFS. The receiver: what a whole frame and a part of one come to (R140 to R143, R183), for O25 and O38. -/

namespace Sys2Proof.Machine

/-! ### Inside a frame (R141) -/

/-- The beginning of a part of a frame is a part of it. -/
theorem partOfFrame_of_append {taken more : List Byte} (h : partOfFrame (taken ++ more)) : partOfFrame taken := by
  intro length hlength
  obtain ⟨hle, hlt⟩ := h length (by
    rw [List.getElem?_append_left (List.getElem?_eq_some_iff.1 hlength).1]
    exact hlength)
  rw [List.length_append] at hlt
  exact ⟨hle, by omega⟩

/-- Before its last byte a frame has every byte but that one. -/
theorem partOfFrame_frame {control length checkHigh : Byte} {payload : List Byte} (hl : length.toNat = payload.length)
    (h : payload.length ≤ 80) : partOfFrame (control :: length :: payload ++ [checkHigh]) := by
  intro l hlength
  obtain rfl : length = l := Option.some.inj hlength
  simp only [List.length_append, List.length_cons, List.length_nil, hl]
  exact ⟨h, by omega⟩

/-- A part of a frame leaves the receiver inside it. -/
theorem assemble_of_part {taken : List Byte} (h : partOfFrame taken) : assemble taken = .inl (.inFrame taken) := by
  match taken with
  | [] | [_] => rfl
  | control :: length :: rest =>
    obtain ⟨hle, hlt⟩ := h length rfl
    simp only [List.length_cons] at hlt
    rw [assemble, if_neg (show ¬Config.maxPayload < length.toNat from Nat.not_lt.2 hle), if_pos (by omega)]

/-- The last byte of a frame: the verdict on it. -/
theorem assemble_of_whole {control length checkHigh checkLow : Byte} {payload : List Byte}
    (hl : length.toNat = payload.length) (h : payload.length ≤ 80) :
    assemble (control :: length :: payload ++ [checkHigh] ++ [checkLow]) =
      .inr (checkFrame control length payload checkHigh checkLow) := by
  have hlong : ¬(payload ++ [checkHigh, checkLow]).length < payload.length + 2 := by
    rw [List.length_append]
    exact Nat.lt_irrefl _
  rw [List.append_assoc]
  change assemble (control :: length :: (payload ++ [checkHigh, checkLow])) = _
  rw [assemble, hl, if_neg (show ¬Config.maxPayload < payload.length from Nat.not_lt.2 h), if_neg hlong,
    List.drop_left, List.take_left]

/-- A length above 80 ends the frame. -/
theorem assemble_of_long {control length : Byte} (h : 80 < length.toNat) :
    assemble [control, length] = .inr .discarded := by
  rw [assemble, if_pos (show Config.maxPayload < length.toNat from h)]

/-! ### Runs of bytes -/

/-- A byte inside a frame that leaves the receiver there. -/
theorem receive_inFrame_cons {taken : List Byte} {b : Byte} (h : partOfFrame (taken ++ [b])) (rest : List RxByte) :
    receive (.inFrame taken) (⟨b, false⟩ :: rest) = receive (.inFrame (taken ++ [b])) rest := by
  have hb : rxByte (.inFrame taken) ⟨b, false⟩ = .inl (.inFrame (taken ++ [b])) := assemble_of_part h
  rw [receive, hb]

/-- A byte that ends a run with an event. -/
theorem receive_of_event {st : RxState} {b : RxByte} {e : RxEvent} (h : rxByte st b = .inr e) :
    receive st [b] = some (.inr e) := by
  rw [receive, h]
  rfl

/-- Undamaged bytes that make no whole frame are taken into the frame in progress. -/
theorem receive_part {taken more : List Byte} (h : partOfFrame (taken ++ more)) (rest : List RxByte) :
    receive (.inFrame taken) (undamaged more ++ rest) = receive (.inFrame (taken ++ more)) rest := by
  induction more generalizing taken with
  | nil => rw [List.append_nil]; rfl
  | cons b more ih =>
    have happend : taken ++ b :: more = taken ++ [b] ++ more := by rw [List.append_assoc, List.singleton_append]
    rw [happend] at h ⊢
    calc
      receive (.inFrame taken) (undamaged (b :: more) ++ rest) =
          receive (.inFrame (taken ++ [b])) (undamaged more ++ rest) :=
        receive_inFrame_cons (partOfFrame_of_append h) _
      _ = receive (.inFrame (taken ++ [b] ++ more)) rest := ih h

/-- A start byte begins a frame (R141). -/
theorem receive_start (rest : List RxByte) :
    receive .hunting (⟨0xD2, false⟩ :: rest) = receive (.inFrame []) rest := rfl

/-- A start byte after bytes that begin no frame. -/
theorem receive_begun {idle : List RxByte} (h : idle.all RxByte.idle = true) (rest : List RxByte) :
    receive .hunting (idle ++ [⟨0xD2, false⟩] ++ rest) = receive (.inFrame []) rest := by
  rw [List.append_assoc, receive_idle _ _ h]
  exact receive_start rest

/-- A part of a frame after its start byte. -/
theorem receive_begun_part {taken : List Byte} (h : partOfFrame taken) (rest : List RxByte) :
    receive (.inFrame []) (undamaged taken ++ rest) = receive (.inFrame taken) rest :=
  receive_part (taken := []) h rest

/-- A whole frame comes to the verdict on it. -/
theorem receive_whole {control length checkHigh checkLow : Byte} {payload : List Byte}
    (hl : length.toNat = payload.length) (h : payload.length ≤ 80) :
    receive (.inFrame []) (undamaged (control :: length :: payload ++ [checkHigh, checkLow])) =
      some (.inr (checkFrame control length payload checkHigh checkLow)) := by
  have hbytes : undamaged (control :: length :: payload ++ [checkHigh, checkLow]) =
      undamaged (control :: length :: payload ++ [checkHigh]) ++ [⟨checkLow, false⟩] := by
    simp only [undamaged, List.map_append, List.map_cons, List.map_nil, List.cons_append, List.append_assoc,
      List.nil_append]
  rw [hbytes, receive_begun_part (partOfFrame_frame hl h)]
  exact receive_of_event (assemble_of_whole hl h)

/-- The run ends with a discard. -/
theorem receivedDiscard_iff (st : RxState) (raw : List RxByte) :
    receivedDiscard st raw = true ↔ receive st raw = some (.inr .discarded) := by
  rw [receivedDiscard]
  match receive st raw with
  | none | some (.inl _) | some (.inr (.frame _)) => exact iff_of_false Bool.false_ne_true (by simp)
  | some (.inr .discarded) => exact iff_of_true rfl rfl

/-! ### The verdict on a whole frame (R142, R143) -/

/-- The check bytes are right exactly when they spell the number of R142. -/
theorem checkBytes_iff (covered : List Byte) (checkHigh checkLow : Byte) :
    (highByte (crc16 covered) = checkHigh ∧ lowByte (crc16 covered) = checkLow) ↔
      256 * checkHigh.toNat + checkLow.toNat = checkNumber (covered.map fun b => b.toNat) := by
  have hhigh := checkHigh.isLt
  have hlow := checkLow.isLt
  rw [← BitVec.toNat_inj, ← BitVec.toNat_inj, highByte_toNat, lowByte_toNat, crc16_toNat]
  omega

/-- The type of a control byte. -/
theorem controlType_toNat (control : Byte) : (control.extractLsb' 6 2).toNat = control.toNat / 64 := by
  have hlt := control.isLt
  rw [BitVec.extractLsb'_toNat, Nat.shiftRight_eq_div_pow]
  omega

/-- The number of a control byte. -/
theorem controlNumber_toNat (control : Byte) : (control.setWidth 6).toNat = control.toNat % 64 :=
  BitVec.toNat_setWidth 6 control

theorem controlType_eq_iff (control : Byte) (type : BitVec 2) :
    control.extractLsb' 6 2 = type ↔ control.toNat / 64 = type.toNat := by
  rw [← BitVec.toNat_inj, controlType_toNat]

theorem controlByte_type (type : BitVec 2) (number : Seq) : (controlByte type number).extractLsb' 6 2 = type := by
  have hlt := number.isLt
  rw [controlType_eq_iff, controlByte_toNat]
  omega

theorem controlByte_number (type : BitVec 2) (number : Seq) : (controlByte type number).setWidth 6 = number := by
  have hlt := number.isLt
  rw [← BitVec.toNat_inj, controlNumber_toNat, controlByte_toNat]
  omega

/-- The cause bytes of the host's NAKs. -/
theorem nakCauseOf_eq_none_iff (b : Byte) : nakCauseOf b = none ↔ b ≠ 0x01 ∧ b ≠ 0x02 ∧ b ≠ 0x03 := by
  revert b
  decide +kernel

section
variable {control : Byte} (payload : List Byte)

theorem frameOf_of_data (h : control.extractLsb' 6 2 = 0) :
    frameOf control payload = some (.data (control.setWidth 6) payload) := if_pos h

theorem frameOf_of_ack (h : control.extractLsb' 6 2 = 1) :
    frameOf control payload = if payload = [] then some (.ack (control.setWidth 6)) else none :=
  (if_neg (by rw [h]; decide)).trans (if_pos h)

theorem frameOf_of_nak (h : control.extractLsb' 6 2 = 2) (b : Byte) :
    frameOf control [b] = (nakCauseOf b).map fun cause => .nak cause (control.setWidth 6) :=
  (if_neg (by rw [h]; decide)).trans ((if_neg (by rw [h]; decide)).trans (if_pos h))

theorem frameOf_of_nak_length (h : control.extractLsb' 6 2 = 2) (hl : payload.length ≠ 1) :
    frameOf control payload = none := by
  refine (if_neg (by rw [h]; decide)).trans ((if_neg (by rw [h]; decide)).trans ((if_pos h).trans ?_))
  match payload with
  | [] | _ :: _ :: _ => rfl
  | [_] => exact absurd rfl hl

theorem frameOf_of_control (h : control.extractLsb' 6 2 = 3) :
    frameOf control payload = if control.setWidth 6 = 0x01 ∧ payload = [] then some .sync else none :=
  (if_neg (by rw [h]; decide)).trans ((if_neg (by rw [h]; decide)).trans (if_neg (by rw [h]; decide)))

end

/-- A NAK's payload that names no cause. -/
theorem frameOf_of_nak_eq_none_iff {control : Byte} (payload : List Byte) (h : control.extractLsb' 6 2 = 2) :
    frameOf control payload = none ↔ payload ≠ [0x01] ∧ payload ≠ [0x02] ∧ payload ≠ [0x03] := by
  match payload with
  | [b] => rw [frameOf_of_nak h, Option.map_eq_none_iff, nakCauseOf_eq_none_iff, Ne, Ne, Ne, Ne, Ne, Ne,
      List.singleton_inj, List.singleton_inj, List.singleton_inj]
  | [] | _ :: _ :: _ => exact iff_of_true (frameOf_of_nak_length _ h (by simp)) (by simp)

/-- A control byte and a payload that spell no frame of the host (R143, R183). -/
theorem frameOf_eq_none_iff (control : Byte) (payload : List Byte) :
    frameOf control payload = none ↔
      (control.toNat / 64 = 1 ∧ payload ≠ []) ∨
        (control.toNat / 64 = 2 ∧ payload ≠ [0x01] ∧ payload ≠ [0x02] ∧ payload ≠ [0x03]) ∨
          (control.toNat / 64 = 3 ∧ (control.toNat % 64 ≠ 1 ∨ payload ≠ [])) := by
  have hlt := control.isLt
  have htype : control.toNat / 64 < 4 := by omega
  interval_cases h : control.toNat / 64
  · rw [frameOf_of_data payload ((controlType_eq_iff control 0).2 h)]
    simp
  · rw [frameOf_of_ack payload ((controlType_eq_iff control 1).2 h)]
    simp
  · rw [frameOf_of_nak_eq_none_iff payload ((controlType_eq_iff control 2).2 h)]
    simp
  · have hnumber : control.setWidth 6 = (0x01 : Seq) ↔ control.toNat % 64 = 1 := by
      rw [← BitVec.toNat_inj, controlNumber_toNat]
      rfl
    rw [frameOf_of_control payload ((controlType_eq_iff control 3).2 h), ite_eq_right_iff, hnumber]
    simp [imp_iff_not_or]

/-- The verdict on a whole frame is a discard exactly in the cases of R143. -/
theorem checkFrame_eq_discarded_iff {control length checkHigh checkLow : Byte} {payload : List Byte}
    (hl : length.toNat = payload.length) :
    checkFrame control length payload checkHigh checkLow = .discarded ↔
      isDiscarded control payload checkHigh checkLow := by
  have hcheck := checkBytes_iff (control :: length :: payload) checkHigh checkLow
  rw [List.map_cons, List.map_cons, hl] at hcheck
  rw [checkFrame, isDiscarded, ← frameOf_eq_none_iff, Ne, ← hcheck]
  by_cases h : highByte (crc16 (control :: length :: payload)) = checkHigh ∧
      lowByte (crc16 (control :: length :: payload)) = checkLow
  · rw [if_pos h]
    cases hf : frameOf control payload with
    | none => exact ⟨fun _ => .inr rfl, fun _ => rfl⟩
    | some f =>
      refine iff_of_false (fun hd => by cases hd) ?_
      rintro (hn | hn)
      · exact hn h
      · cases hn
  · rw [if_neg h]
    exact ⟨fun _ => .inl h, fun _ => rfl⟩

/-- A frame that the receiver takes from a whole one. -/
theorem receivedFrame_frameBytes {control : Byte} {payload : List Byte} {f : HostFrame} (h : payload.length ≤ 80)
    (hf : frameOf control payload = some f) : receivedFrame .hunting (undamaged (frameBytes control payload)) = some f := by
  have hl : (BitVec.ofNat 8 payload.length).toNat = payload.length := Nat.mod_eq_of_lt (by omega)
  have hrx : receive .hunting (undamaged (frameBytes control payload)) = some (.inr (.frame f)) := by
    refine (receive_start _).trans ((receive_whole hl h).trans ?_)
    rw [checkFrame, if_pos ⟨rfl, rfl⟩, hf]
  rw [receivedFrame, hrx]

/-! ### The statements -/

/-- Settles O25: the receiver on whole frames, the line byte by byte, and the bytes and check as numbers. -/
theorem framesAreReceivedAsSent : Obligations.FramesAreReceivedAsSent := by
  unfold Obligations.FramesAreReceivedAsSent
  refine ⟨?_, ?_, ?_, ?_, ?_, ?_, crc16_toNat, ?_⟩
  · intro f hf
    cases f with
    | data n payload =>
      refine receivedFrame_frameBytes (hf n payload rfl) ?_
      rw [frameOf_of_data _ (controlByte_type 0 n), controlByte_number]
    | ack n =>
      refine receivedFrame_frameBytes (Nat.zero_le 80) ?_
      rw [frameOf_of_ack _ (controlByte_type 1 n), controlByte_number, if_pos rfl]
    | nak cause n =>
      refine receivedFrame_frameBytes (show 1 ≤ 80 by decide) ?_
      rw [frameOf_of_nak (controlByte_type 2 n), controlByte_number]
      cases cause <;> rfl
    | sync => exact receivedFrame_frameBytes (Nat.zero_le 80) rfl
  · intro b idle stop rest
    rw [List.append_assoc, sampleLine_idle, sampleLine_byte]
  · intro l bytes
    constructor
    · intro h
      have hlevels : l.txdLevels = bytes.flatMap byteLevels := by rw [Link.txdLevels, h]
      rw [hlevels]
      exact ⟨sampleLine_flatMap bytes, length_flatMap_byteLevels bytes⟩
    · intro h
      have hlevels : l.txdLevels = [true] := by rw [Link.txdLevels, h]
      rw [hlevels]
      decide
  · exact fun n payload h => frameBytes_toNat 0 n payload h
  · intro n
    refine ⟨frameBytes_toNat 1 n [] (by decide), frameBytes_toNat 2 n [0x01] (by decide),
      frameBytes_toNat 2 n [0x02] (by decide), frameBytes_toNat 2 n [0x03] (by decide), fun renumbered h => ?_⟩
    refine (frameBytes_toNat 3 0x02 [n.setWidth 8, BitVec.ofNat 8 renumbered] (show 2 ≤ 80 by decide)).trans ?_
    have hn : (n.setWidth 8).toNat = n.toNat := by
      rw [BitVec.toNat_setWidth]
      exact Nat.mod_eq_of_lt (Nat.lt_trans n.isLt (by decide))
    have hr : (BitVec.ofNat 8 renumbered).toNat = renumbered := Nat.mod_eq_of_lt (by omega)
    rw [List.map_cons, List.map_cons, List.map_nil, hn, hr]
    rfl
  · exact frameBytes_toNat 3 0x01 [] (by decide)
  · decide +kernel

/-- Settles O38: what the bytes come to, and the counter alone. -/
theorem discardsAreOnlyCounted : Obligations.DiscardsAreOnlyCounted := by
  unfold Obligations.DiscardsAreOnlyCounted
  intro raw s hr after
  have hdiscard (h : receive s.link.rx raw = some (.inr .discarded)) : exec (.frameDiscard raw) s = .next after := by
    have hrx := (receivedDiscard_iff s.link.rx raw).2 h
    change execFrameDiscard raw s = _
    rw [execFrameDiscard, State.whenRunning_running hr, if_pos hrx]
    rfl
  have htimeout (taken : List Byte) (h : receive s.link.rx raw = some (.inl (.inFrame taken))) :
      exec (.interByteTimeout raw) s = .next after := by
    have hrx : receivedPartial s.link.rx raw = true := by rw [receivedPartial, h]
    change execInterByteTimeout raw s = _
    rw [execInterByteTimeout, State.whenRunning_running hr, if_pos hrx]
    rfl
  refine ⟨hdiscard, htimeout, ?_⟩
  intro idle hrx hidle begun
  have hbegun (rest : List RxByte) : receive s.link.rx (begun ++ rest) = receive (.inFrame []) rest := by
    rw [hrx]
    exact receive_begun hidle rest
  refine ⟨?_, ?_, ?_, ?_⟩
  · intro control length hlong hraw
    refine hdiscard ?_
    rw [hraw, hbegun]
    refine (receive_begun_part (taken := [control]) (fun _ h => by cases h) [⟨length, false⟩]).trans ?_
    exact receive_of_event (assemble_of_long hlong)
  · intro taken value hpart hraw
    refine hdiscard ?_
    rw [hraw, List.append_assoc, hbegun, receive_begun_part hpart]
    exact receive_of_event rfl
  · intro control payload checkHigh checkLow hlen hraw
    have hl : (BitVec.ofNat 8 payload.length).toNat = payload.length := Nat.mod_eq_of_lt (by omega)
    have hwhole : receive s.link.rx raw =
        some (.inr (checkFrame control (BitVec.ofNat 8 payload.length) payload checkHigh checkLow)) := by
      rw [hraw, hbegun]
      exact receive_whole hl hlen
    have hverdict := checkFrame_eq_discarded_iff (control := control) (checkHigh := checkHigh) (checkLow := checkLow) hl
    by_cases h : isDiscarded control payload checkHigh checkLow
    · rw [if_pos h]
      exact hdiscard (by rw [hwhole, hverdict.2 h])
    · rw [if_neg h]
      have hno : receivedDiscard s.link.rx raw ≠ true := fun hyes => by
        have hend := (receivedDiscard_iff s.link.rx raw).1 hyes
        rw [hwhole] at hend
        exact h (hverdict.1 (Sum.inr.inj (Option.some.inj hend)))
      change execFrameDiscard raw s = _
      rw [execFrameDiscard, State.whenRunning_running hr, if_neg hno]
  · intro taken hpart hraw
    refine htimeout taken ?_
    rw [hraw, hbegun]
    have hall := receive_begun_part hpart []
    rwa [List.append_nil] at hall

end Sys2Proof.Machine
end
